-- ==== Sys2Proof/Word.lean ====
section
/-! DEFINITION. The word types of BSR1B: bytes, 16-bit instruction words, 32-bit registers and addresses, 64-bit FPU
registers, and the 4-bit numbers that select a register (10_state.md R20, R31, R49). -/

namespace Sys2Proof

/-- One byte of memory (20_memory.md R60). -/
abbrev Byte := BitVec 8

/-- One instruction word, or an EXSR code (30_encoding.md R90, 60_exceptions.md R403). -/
abbrev Half := BitVec 16

/-- A general or control register, or an address (10_state.md R20, R31; 92_eei_decisions.md D2). -/
abbrev Word := BitVec 32

/-- An FPU register (10_state.md R49). -/
abbrev DWord := BitVec 64

/-- A general register number R0..R15 (10_state.md R20). -/
abbrev Reg := BitVec 4

/-- A control register number C0..C15 (10_state.md R31). -/
abbrev CReg := BitVec 4

/-- An FPU register number FR0..FR15 (10_state.md R49). -/
abbrev FReg := BitVec 4

/-- R0, the displacement and low register DLR (10_state.md R21). -/
abbrev dlr : Reg := 0#4

/-- R1, the high register DHR (10_state.md R22). -/
abbrev dhr : Reg := 1#4

/-- R15, the stack pointer SP (10_state.md R23). -/
abbrev sp : Reg := 15#4

end Sys2Proof
end

