-- ==== Sys2Proof/Config.lean ====
section
/-! DEFINITION. What an implementation fixes (00_scope.md R7), as plain data, and the free values the spec leaves open,
as constants without a body. -/

namespace Sys2Proof

/-- The priority class of an interrupt source (60_exceptions.md R420). -/
inductive IrqClass where
  | high | medium | low
deriving DecidableEq, Repr, Inhabited

/-- The four asynchronous interrupt sources (60_exceptions.md R402, R420). -/
inductive IrqSource where
  | general | timer | uart | spi
deriving DecidableEq, Repr, Inhabited

/-- What stands behind an address of `MemMap` (20_memory.md R72, R73). -/
inductive MemKind where
  | memory | device
deriving DecidableEq, Repr, Inhabited

/-- One region of `MemMap`: the byte addresses from `base` up to but not including `base + size`, their kind and the
accesses they allow (20_memory.md R73). -/
structure Region where
  base  : Nat
  size  : Nat
  kind  : MemKind
  read  : Bool
  write : Bool
  exec  : Bool
deriving DecidableEq, Repr, Inhabited

/-- Which uses of SLEEP are invalid (45_system.md R320): never; when no interrupt could wake the machine (both are
readings R320 offers); or whatever the implementation's unstated predicate says. -/
inductive SleepRule where
  | never | whenMasked | unstated
deriving DecidableEq, Repr, Inhabited

/-- `FAULT_SPC`: the address a general fault saves (00_scope.md R7, 60_exceptions.md R412): that of the faulting
instruction, that of the following one, or a draw between the two at each fault. -/
inductive FaultSpc where
  | faulting | following | drawn
deriving DecidableEq, Repr, Inhabited

/-- The implementation parameters of 00_scope.md R7. A machine carries them unchanged (log entry 1).
`hasFldcd` and `hasFstcd` say whether a meaning of FLDCD and FSTCD is supplied (46_fpu.md R370, R374);
`refuseSelfModified` whether a run that executes bytes it stored is refused (93_implementation_defined.md U12). -/
structure Config where
  hasFpu             : Bool
  hasFpuPushPop      : Bool
  misalignedOk       : Bool
  memMap             : List Region
  resetVbr           : Word
  generalClass       : IrqClass
  uartClass          : IrqClass
  spiClass           : IrqClass
  sleepRule          : SleepRule
  faultSpc           : FaultSpc
  hasFldcd           : Bool
  hasFstcd           : Bool
  refuseSelfModified : Bool
deriving DecidableEq, Repr, Inhabited

namespace Config

/-- The parameters of `State.reset` (DESIGN CHOICE, unsafe for statements about `State.reset` alone; log entry 2): every
optional part present, and each open parameter at a value with which instructions run. -/
def atReset : Config :=
  { hasFpu := true, hasFpuPushPop := true, misalignedOk := false,
    memMap := [{ base := 0, size := 4294967296, kind := .memory, read := true, write := true, exec := true }],
    resetVbr := 0, generalClass := .high, uartClass := .low, spiClass := .low, sleepRule := .never,
    faultSpc := .faulting, hasFldcd := true, hasFstcd := true, refuseSelfModified := false }

/-! The free values. No body: nothing constrains them. `Nat` arguments are the draw counter of the state. -/

/-- `undef32()` (00_scope.md R11, R27, R28). -/
opaque freeWord : Nat → Word

/-- `undef1()` (00_scope.md R11, R29). -/
opaque freeBit : Nat → Bool

/-- The 16 undefined high bits of DLR after FSTCH (46_fpu.md R376). -/
opaque freeHalf : Nat → Half

/-- The byte a device answers to a read at an address (20_memory.md R72). -/
opaque deviceByte : Nat → Nat → Byte

/-- `pick`: which of several pending, enabled sources of one class is accepted, as an index that is reduced modulo the
number of them (60_exceptions.md R422). -/
opaque pick : Nat → List IrqSource → Nat

/-! The numeric functions of the FPU (46_fpu.md R351). -/

opaque fadd : DWord → DWord → DWord
opaque fsub : DWord → DWord → DWord
opaque fmul : DWord → DWord → DWord
opaque fcmpeq : DWord → DWord → Bool
opaque fcmpgt : DWord → DWord → Bool
opaque fneg : DWord → DWord
opaque fabs : DWord → DWord
opaque cvtF32In : Word → DWord
opaque cvtI32In : Word → DWord
opaque cvtF16In : Half → DWord
opaque cvtF32Out : DWord → Word
opaque cvtI32Out : DWord → Word
opaque cvtF16Out : DWord → Half
opaque fmovSOut : DWord → Word
opaque fmovSIn : Word → DWord

end Config

end Sys2Proof
end

