-- ==== Sys2Proof/Syntax.lean ====
section
/-! DEFINITION. The instructions of BSR1B, one constructor per row of spec/opcode_table.json. A constructor's arguments
are the row's fields from the high bits to the low ones: `n` (bits 7..4, or 11..8 with an 8-bit immediate), then `m`, a
displacement `d` or an immediate `j`, `i`. Each docstring gives the word's pattern, the listing's text and the rule. -/

namespace Sys2Proof

inductive Instr where
  -- Block 0: register-indirect and DLR-indexed moves (30_encoding.md R94).
  /-- 00nm MOV.B Rm, (Rn) (R121) -/
  | movbStore (n : Reg) (m : Reg)
  /-- 01nm MOV.W Rm, (Rn) (R122) -/
  | movwStore (n : Reg) (m : Reg)
  /-- 02nm MOV.L Rm, (Rn) (R123) -/
  | movlStore (n : Reg) (m : Reg)
  /-- 03nm MOVU.B (Rm), Rn (R124) -/
  | movubLoad (n : Reg) (m : Reg)
  /-- 04nm MOV.B Rm, (Rn, DLR) (R125) -/
  | movbStoreDlr (n : Reg) (m : Reg)
  /-- 05nm MOV.W Rm, (Rn, DLR) (R126) -/
  | movwStoreDlr (n : Reg) (m : Reg)
  /-- 06nm MOV.L Rm, (Rn, DLR) (R127) -/
  | movlStoreDlr (n : Reg) (m : Reg)
  /-- 07nm MOVU.B (Rm, DLR), Rn (R128) -/
  | movubLoadDlr (n : Reg) (m : Reg)
  /-- 08nm MOV.B (Rm), Rn (R129) -/
  | movbLoad (n : Reg) (m : Reg)
  /-- 09nm MOV.W (Rm), Rn (R130) -/
  | movwLoad (n : Reg) (m : Reg)
  /-- 0Anm MOV.L (Rm), Rn (R131) -/
  | movlLoad (n : Reg) (m : Reg)
  /-- 0Bnm MOVU.W (Rm), Rn (R132) -/
  | movuwLoad (n : Reg) (m : Reg)
  /-- 0Cnm MOV.B (Rm, DLR), Rn (R133) -/
  | movbLoadDlr (n : Reg) (m : Reg)
  /-- 0Dnm MOV.W (Rm, DLR), Rn (R134) -/
  | movwLoadDlr (n : Reg) (m : Reg)
  /-- 0Enm MOV.L (Rm, DLR), Rn (R135) -/
  | movlLoadDlr (n : Reg) (m : Reg)
  /-- 0Fnm MOVU.W (Rm, DLR), Rn (R136) -/
  | movuwLoadDlr (n : Reg) (m : Reg)
  -- Block 1: two-register operations (30_encoding.md R95).
  /-- 10nm ADD Rm, Rn (R172) -/
  | addReg (n : Reg) (m : Reg)
  /-- 11nm SUB Rm, Rn (R173) -/
  | subReg (n : Reg) (m : Reg)
  /-- 12nm ADC Rm, Rn (R174) -/
  | adcReg (n : Reg) (m : Reg)
  /-- 13nm SBB Rm, Rn (R175) -/
  | sbbReg (n : Reg) (m : Reg)
  /-- 14nm TST Rm, Rn (R176) -/
  | tstReg (n : Reg) (m : Reg)
  /-- 15nm AND Rm, Rn (R177) -/
  | andReg (n : Reg) (m : Reg)
  /-- 16nm OR Rm, Rn (R178) -/
  | orReg (n : Reg) (m : Reg)
  /-- 17nm XOR Rm, Rn (R179) -/
  | xorReg (n : Reg) (m : Reg)
  /-- 18nm MOV Rm, Rn (R180) -/
  | movReg (n : Reg) (m : Reg)
  /-- 1Cnm CMPEQ Rm, Rn (R181) -/
  | cmpeqReg (n : Reg) (m : Reg)
  /-- 1Dnm CMPHI Rm, Rn (R182) -/
  | cmphiReg (n : Reg) (m : Reg)
  /-- 1Enm CMPGT Rm, Rn (R183) -/
  | cmpgtReg (n : Reg) (m : Reg)
  -- Block 2: branches, DLR immediates, SP-relative moves, compares with an immediate (30_encoding.md R96).
  /-- 20dd BRA (PC, disp8s) (R223) -/
  | braDisp (d : BitVec 8)
  /-- 21dd BSR (PC, disp8s) (R224) -/
  | bsrDisp (d : BitVec 8)
  /-- 22dd BT (PC, disp8s) (R225) -/
  | btDisp (d : BitVec 8)
  /-- 23dd BF (PC, disp8s) (R226) -/
  | bfDisp (d : BitVec 8)
  /-- 24jj LDIZ #imm8u, DLR (R241) -/
  | ldiz8 (j : BitVec 8)
  /-- 25jj LDIN #imm8u, DLR (R242) -/
  | ldin8 (j : BitVec 8)
  /-- 26jj LDISH #imm8u, DLR (R243) -/
  | ldish (j : BitVec 8)
  /-- 27nd MOVU.W (SP, disp4u), Rn (R137) -/
  | movuwLoadSp (n : Reg) (d : BitVec 4)
  /-- 28nd MOV.L Rn, (SP, disp4u) (R138) -/
  | movlStoreSp (n : Reg) (d : BitVec 4)
  /-- 29nd MOV.W Rn, (SP, disp4u) (R139) -/
  | movwStoreSp (n : Reg) (d : BitVec 4)
  /-- 2And MOV.L (SP, disp4u), Rn (R140) -/
  | movlLoadSp (n : Reg) (d : BitVec 4)
  /-- 2Bnd MOV.W (SP, disp4u), Rn (R141) -/
  | movwLoadSp (n : Reg) (d : BitVec 4)
  /-- 2Cnj CMPEQ #imm4u, Rn (R184) -/
  | cmpeqImmU (n : Reg) (j : BitVec 4)
  /-- 2Dnj CMPEQ #imm4n, Rn (R185) -/
  | cmpeqImmN (n : Reg) (j : BitVec 4)
  /-- 2Enj CMPGT #imm4u, Rn (R186) -/
  | cmpgtImm (n : Reg) (j : BitVec 4)
  /-- 2Fnj CMPGE #imm4u, Rn (R187) -/
  | cmpgeImm (n : Reg) (j : BitVec 4)
  -- Block 3: operations of no or one register (30_encoding.md R97).
  /-- 3000 NOP (R232) -/
  | nop
  /-- 3010 RTS (R231) -/
  | rts
  /-- 3020 SLEEP (R320) -/
  | sleep
  /-- 3030 BREAK (R321) -/
  | breakpoint
  /-- 3040 CLRT (R261) -/
  | clrt
  /-- 3050 SETT (R262) -/
  | sett
  /-- 3060 CLRS (R263) -/
  | clrs
  /-- 3070 SETS (R264) -/
  | sets
  /-- 3080 NOTT (R265) -/
  | nott
  /-- 3090 NOTS (R266) -/
  | nots
  /-- 30A0 LDISH16 #0x0000, DLR (R244) -/
  | ldish16Zero
  /-- 30B0 LDISH16 #0xFFFF, DLR (R245) -/
  | ldish16Ones
  /-- 30C0 RTE (R323) -/
  | rte
  /-- 31n8 PUSH Rn (R144) -/
  | pushReg (n : Reg)
  /-- 31n9 PUSH Cn (R329) -/
  | pushCtl (n : CReg)
  /-- 31nA POP Rn (R145) -/
  | popReg (n : Reg)
  /-- 31nB POP Cn (R330) -/
  | popCtl (n : CReg)
  /-- 31nC CMPPL Rn (R188) -/
  | cmppl (n : Reg)
  /-- 31nD CMPPZ Rn (R189) -/
  | cmppz (n : Reg)
  /-- 32n0 BRA Rn (R227) -/
  | braReg (n : Reg)
  /-- 32n1 BSR Rn (R228) -/
  | bsrReg (n : Reg)
  /-- 32n2 BT Rn (R229) -/
  | btReg (n : Reg)
  /-- 32n3 BF Rn (R230) -/
  | bfReg (n : Reg)
  /-- 32n4 EXTU.B Rn (R267) -/
  | extuB (n : Reg)
  /-- 32n5 EXTU.W Rn (R268) -/
  | extuW (n : Reg)
  /-- 32n6 EXTS.B Rn (R269) -/
  | extsB (n : Reg)
  /-- 32n7 EXTS.W Rn (R270) -/
  | extsW (n : Reg)
  /-- 33n0 NOT Rn (R271) -/
  | notReg (n : Reg)
  /-- 33n1 NEG Rn (R272) -/
  | negReg (n : Reg)
  /-- 33n2 NEGC Rn (R273) -/
  | negcReg (n : Reg)
  /-- 33n3 MOVNT Rn (R274) -/
  | movnt (n : Reg)
  /-- 33n4 ROTL Rn (R275) -/
  | rotl (n : Reg)
  /-- 33n5 ROTR Rn (R276) -/
  | rotr (n : Reg)
  /-- 33n6 ROTCL Rn (R277) -/
  | rotcl (n : Reg)
  /-- 33n7 ROTCR Rn (R278) -/
  | rotcr (n : Reg)
  /-- 33n8 SHLL Rn (R279) -/
  | shll (n : Reg)
  /-- 33n9 SHLR Rn (R280) -/
  | shlr (n : Reg)
  /-- 33nA SHAR Rn (R281) -/
  | shar (n : Reg)
  /-- 34n0 SHLL1 Rn (R282) -/
  | shll1 (n : Reg)
  /-- 34n1 SHLL2 Rn (R283) -/
  | shll2 (n : Reg)
  /-- 34n2 SHLL4 Rn (R284) -/
  | shll4 (n : Reg)
  /-- 34n3 SHLL8 Rn (R285) -/
  | shll8 (n : Reg)
  /-- 34n4 SHLR1 Rn (R286) -/
  | shlr1 (n : Reg)
  /-- 34n5 SHLR2 Rn (R287) -/
  | shlr2 (n : Reg)
  /-- 34n6 SHLR4 Rn (R288) -/
  | shlr4 (n : Reg)
  /-- 34n7 SHLR8 Rn (R289) -/
  | shlr8 (n : Reg)
  /-- 34n8 SHAR1 Rn (R290) -/
  | shar1 (n : Reg)
  /-- 34n9 SHAR2 Rn (R291) -/
  | shar2 (n : Reg)
  /-- 34nA SHAR4 Rn (R292) -/
  | shar4 (n : Reg)
  /-- 34nB SHAR8 Rn (R293) -/
  | shar8 (n : Reg)
  /-- 34nC SHLL16 Rn (R294) -/
  | shll16 (n : Reg)
  /-- 34nD SHLR16 Rn (R295) -/
  | shlr16 (n : Reg)
  /-- 34nE SHAR16 Rn (R296) -/
  | shar16 (n : Reg)
  /-- 34nF SHARSX Rn (R297) -/
  | sharsx (n : Reg)
  /-- 36j3 TRAP #imm4u (R322) -/
  | trap (j : BitVec 4)
  /-- 36n6 SHLD DLR, Rn (R299) -/
  | shld (n : Reg)
  /-- 36n7 SHAD DLR, Rn (R300) -/
  | shad (n : Reg)
  /-- 36nD CMPHS DLR, Rn (R190) -/
  | cmphsDlr (n : Reg)
  /-- 36nE CMPGE DLR, Rn (R191) -/
  | cmpgeDlr (n : Reg)
  /-- 36nF MOVT Rn (R301) -/
  | movt (n : Reg)
  /-- 37n0 SWAP.B Rn (R302) -/
  | swapB (n : Reg)
  /-- 37n1 SWAP.W Rn (R303) -/
  | swapW (n : Reg)
  /-- 37n4 SWAP.LB Rn (R304) -/
  | swapLb (n : Reg)
  /-- 38n2 PUSH FRn (R379) -/
  | pushFpu (n : FReg)
  /-- 38n3 POP FRn (R380) -/
  | popFpu (n : FReg)
  -- Block 4: control-register moves, shadow moves, LEA (30_encoding.md R98).
  /-- 48nm MOV Rm, Cn (R325) -/
  | movToCtl (n : CReg) (m : Reg)
  /-- 49nm MOV Cm, Rn (R326) -/
  | movFromCtl (n : Reg) (m : CReg)
  /-- 4Anm MOV Rm, Sn (R327) -/
  | movToShadow (n : BitVec 4) (m : Reg)
  /-- 4Bnm MOV Sm, Rn (R328) -/
  | movFromShadow (n : Reg) (m : BitVec 4)
  /-- 4Cnm LEA.B (Rm, DLR), Rn (R146) -/
  | leaB (n : Reg) (m : Reg)
  /-- 4Dnm LEA.W (Rm, DLR), Rn (R147) -/
  | leaW (n : Reg) (m : Reg)
  /-- 4Enm LEA.L (Rm, DLR), Rn (R148) -/
  | leaL (n : Reg) (m : Reg)
  /-- 4Fnm LEA.Q (Rm, DLR), Rn (R149) -/
  | leaQ (n : Reg) (m : Reg)
  -- Block 5: multiplies and three-operand forms (30_encoding.md R99).
  /-- 56nm MULS Rm, Rn (R200) -/
  | muls (n : Reg) (m : Reg)
  /-- 57nm MULU Rm, Rn (R201) -/
  | mulu (n : Reg) (m : Reg)
  /-- 58nm ADD Rm, DLR, Rn (R202) -/
  | addDlr (n : Reg) (m : Reg)
  /-- 59nm SUB Rm, DLR, Rn (R203) -/
  | subDlr (n : Reg) (m : Reg)
  /-- 5Dnm AND Rm, DLR, Rn (R204) -/
  | andDlr (n : Reg) (m : Reg)
  /-- 5Enm OR Rm, DLR, Rn (R205) -/
  | orDlr (n : Reg) (m : Reg)
  /-- 5Fnm XOR Rm, DLR, Rn (R206) -/
  | xorDlr (n : Reg) (m : Reg)
  -- Block 8: MOV.L with a displacement of 4 to 28 bytes (30_encoding.md R100).
  /-- 81nm MOV.L Rm, (Rn, 4) (R142) -/
  | movlStoreDisp4 (n : Reg) (m : Reg)
  /-- 82nm MOV.L Rm, (Rn, 8) (R142) -/
  | movlStoreDisp8 (n : Reg) (m : Reg)
  /-- 83nm MOV.L Rm, (Rn, 12) (R142) -/
  | movlStoreDisp12 (n : Reg) (m : Reg)
  /-- 84nm MOV.L Rm, (Rn, 16) (R142) -/
  | movlStoreDisp16 (n : Reg) (m : Reg)
  /-- 85nm MOV.L Rm, (Rn, 20) (R142) -/
  | movlStoreDisp20 (n : Reg) (m : Reg)
  /-- 86nm MOV.L Rm, (Rn, 24) (R142) -/
  | movlStoreDisp24 (n : Reg) (m : Reg)
  /-- 87nm MOV.L Rm, (Rn, 28) (R142) -/
  | movlStoreDisp28 (n : Reg) (m : Reg)
  /-- 89nm MOV.L (Rm, 4), Rn (R143) -/
  | movlLoadDisp4 (n : Reg) (m : Reg)
  /-- 8Anm MOV.L (Rm, 8), Rn (R143) -/
  | movlLoadDisp8 (n : Reg) (m : Reg)
  /-- 8Bnm MOV.L (Rm, 12), Rn (R143) -/
  | movlLoadDisp12 (n : Reg) (m : Reg)
  /-- 8Cnm MOV.L (Rm, 16), Rn (R143) -/
  | movlLoadDisp16 (n : Reg) (m : Reg)
  /-- 8Dnm MOV.L (Rm, 20), Rn (R143) -/
  | movlLoadDisp20 (n : Reg) (m : Reg)
  /-- 8Enm MOV.L (Rm, 24), Rn (R143) -/
  | movlLoadDisp24 (n : Reg) (m : Reg)
  /-- 8Fnm MOV.L (Rm, 28), Rn (R143) -/
  | movlLoadDisp28 (n : Reg) (m : Reg)
  -- Block 9: the optional FPU (30_encoding.md R101).
  /-- 90nm FMOV.S FRm, (Rn) (R355) -/
  | fmovsStore (n : Reg) (m : FReg)
  /-- 91nm FMOV.D FRm, (Rn) (R356) -/
  | fmovdStore (n : Reg) (m : FReg)
  /-- 92nm FMOV.S FRm, (Rn, DLR) (R357) -/
  | fmovsStoreDlr (n : Reg) (m : FReg)
  /-- 93nm FMOV.D FRm, (Rn, DLR) (R358) -/
  | fmovdStoreDlr (n : Reg) (m : FReg)
  /-- 94nm FMOV.S (Rm), FRn (R359) -/
  | fmovsLoad (n : FReg) (m : Reg)
  /-- 95nm FMOV.D (Rm), FRn (R360) -/
  | fmovdLoad (n : FReg) (m : Reg)
  /-- 96nm FMOV.S (Rm, DLR), FRn (R361) -/
  | fmovsLoadDlr (n : FReg) (m : Reg)
  /-- 97nm FMOV.D (Rm, DLR), FRn (R362) -/
  | fmovdLoadDlr (n : FReg) (m : Reg)
  /-- 98nm FADD FRm, FRn (R363) -/
  | fadd (n : FReg) (m : FReg)
  /-- 99nm FSUB FRm, FRn (R364) -/
  | fsub (n : FReg) (m : FReg)
  /-- 9Anm FMUL FRm, FRn (R365) -/
  | fmul (n : FReg) (m : FReg)
  /-- 9Cnm FCMPEQ FRm, FRn (R366) -/
  | fcmpeq (n : FReg) (m : FReg)
  /-- 9Dnm FCMPGT FRm, FRn (R367) -/
  | fcmpgt (n : FReg) (m : FReg)
  /-- 9Enm FMOV FRm, FRn (R368) -/
  | fmovReg (n : FReg) (m : FReg)
  /-- 9Fn0 FLDCF DLR, FRn (R369) -/
  | fldcf (n : FReg)
  /-- 9Fn1 FLDCD DLR, FRn (R370) -/
  | fldcd (n : FReg)
  /-- 9Fn2 FLDCI DLR, FRn (R371) -/
  | fldci (n : FReg)
  /-- 9Fn3 FLDCH DLR, FRn (R372) -/
  | fldch (n : FReg)
  /-- 9Fn4 FSTCF FRn, DLR (R373) -/
  | fstcf (n : FReg)
  /-- 9Fn5 FSTCD FRn, DLR (R374) -/
  | fstcd (n : FReg)
  /-- 9Fn6 FSTCI FRn, DLR (R375) -/
  | fstci (n : FReg)
  /-- 9Fn7 FSTCH FRn, DLR (R376) -/
  | fstch (n : FReg)
  /-- 9Fn8 FNEG FRn (R377) -/
  | fneg (n : FReg)
  /-- 9Fn9 FABS FRn (R378) -/
  | fabs (n : FReg)
  -- Blocks A to D: long immediates (30_encoding.md R93).
  /-- Ajjj LDIZ #imm12u, DLR (R246) -/
  | ldiz12 (j : BitVec 12)
  /-- Bjjj LDIN #imm12u, DLR (R247) -/
  | ldin12 (j : BitVec 12)
  /-- Cnii ADD #imm8s, Rn (R192) -/
  | addImm (n : Reg) (i : BitVec 8)
  /-- Dnii MOV #imm8s, Rn (R193) -/
  | movImm (n : Reg) (i : BitVec 8)
deriving DecidableEq, Repr

end Sys2Proof
end

