-- ==== Sys2Proof/Decode.lean ====
section
/-! DEFINITION. The decoder and the encoder, from 30_encoding.md R90 to R105 (the opcode listing).

A word is four nibbles, bits 15..12, 11..8, 7..4 and 3..0 (00_scope.md R8), called `a b n m` here. Words that are no
instruction of BSR1B (R104) are rejected by name. Reserved operand VALUES (PUSH R15, C8, ...) decode to their instruction;
its meaning stops on them (log entry 16). -/

namespace Sys2Proof

/-- Why a word is no instruction (30_encoding.md R104), or that fewer than two bytes were given. -/
inductive Reject where
  /-- Listed "-" or skipped by the listing. -/
  | unassigned
  /-- Blocks 6 and 7, "(Reserved)". -/
  | reservedBlock
  /-- 80nm and 88nm, the zero-displacement MOV.L forms, listed "-". -/
  | zeroDisplacement
  /-- 9Bnm and 9FnA..9FnD, listed with the undefined mark "!" (46_fpu.md R381). -/
  | undefinedMark
  /-- Exxx and Fxxx, "Larger Instruction Forms" (30_encoding.md R90). -/
  | longerForm
  /-- Fewer than two bytes. -/
  | truncated
deriving DecidableEq, Repr

/-- Bits 15..12 of an instruction word. -/
def nibbleA (w : Half) : BitVec 4 := w.extractLsb' 12 4
/-- Bits 11..8 of an instruction word. -/
def nibbleB (w : Half) : BitVec 4 := w.extractLsb' 8 4
/-- Bits 7..4 of an instruction word, the field `n` (30_encoding.md R92). -/
def nibbleN (w : Half) : BitVec 4 := w.extractLsb' 4 4
/-- Bits 3..0 of an instruction word, the field `m` (30_encoding.md R92). -/
def nibbleM (w : Half) : BitVec 4 := w.extractLsb' 0 4

/-- Block 0 (30_encoding.md R94). -/
def decodeBlock0 (b n m : BitVec 4) : Except Reject Instr :=
  match b with
  | 0x0#4 => .ok (.movbStore n m)
  | 0x1#4 => .ok (.movwStore n m)
  | 0x2#4 => .ok (.movlStore n m)
  | 0x3#4 => .ok (.movubLoad n m)
  | 0x4#4 => .ok (.movbStoreDlr n m)
  | 0x5#4 => .ok (.movwStoreDlr n m)
  | 0x6#4 => .ok (.movlStoreDlr n m)
  | 0x7#4 => .ok (.movubLoadDlr n m)
  | 0x8#4 => .ok (.movbLoad n m)
  | 0x9#4 => .ok (.movwLoad n m)
  | 0xA#4 => .ok (.movlLoad n m)
  | 0xB#4 => .ok (.movuwLoad n m)
  | 0xC#4 => .ok (.movbLoadDlr n m)
  | 0xD#4 => .ok (.movwLoadDlr n m)
  | 0xE#4 => .ok (.movlLoadDlr n m)
  | 0xF#4 => .ok (.movuwLoadDlr n m)
  | _ => .error .unassigned

/-- Block 1 (30_encoding.md R95). -/
def decodeBlock1 (b n m : BitVec 4) : Except Reject Instr :=
  match b with
  | 0x0#4 => .ok (.addReg n m)
  | 0x1#4 => .ok (.subReg n m)
  | 0x2#4 => .ok (.adcReg n m)
  | 0x3#4 => .ok (.sbbReg n m)
  | 0x4#4 => .ok (.tstReg n m)
  | 0x5#4 => .ok (.andReg n m)
  | 0x6#4 => .ok (.orReg n m)
  | 0x7#4 => .ok (.xorReg n m)
  | 0x8#4 => .ok (.movReg n m)
  | 0xC#4 => .ok (.cmpeqReg n m)
  | 0xD#4 => .ok (.cmphiReg n m)
  | 0xE#4 => .ok (.cmpgtReg n m)
  | _ => .error .unassigned

/-- Block 2 (30_encoding.md R96). -/
def decodeBlock2 (b n m : BitVec 4) : Except Reject Instr :=
  match b with
  | 0x0#4 => .ok (.braDisp (n ++ m))
  | 0x1#4 => .ok (.bsrDisp (n ++ m))
  | 0x2#4 => .ok (.btDisp (n ++ m))
  | 0x3#4 => .ok (.bfDisp (n ++ m))
  | 0x4#4 => .ok (.ldiz8 (n ++ m))
  | 0x5#4 => .ok (.ldin8 (n ++ m))
  | 0x6#4 => .ok (.ldish (n ++ m))
  | 0x7#4 => .ok (.movuwLoadSp n m)
  | 0x8#4 => .ok (.movlStoreSp n m)
  | 0x9#4 => .ok (.movwStoreSp n m)
  | 0xA#4 => .ok (.movlLoadSp n m)
  | 0xB#4 => .ok (.movwLoadSp n m)
  | 0xC#4 => .ok (.cmpeqImmU n m)
  | 0xD#4 => .ok (.cmpeqImmN n m)
  | 0xE#4 => .ok (.cmpgtImm n m)
  | 0xF#4 => .ok (.cmpgeImm n m)
  | _ => .error .unassigned

/-- Block 4 (30_encoding.md R98). -/
def decodeBlock4 (b n m : BitVec 4) : Except Reject Instr :=
  match b with
  | 0x8#4 => .ok (.movToCtl n m)
  | 0x9#4 => .ok (.movFromCtl n m)
  | 0xA#4 => .ok (.movToShadow n m)
  | 0xB#4 => .ok (.movFromShadow n m)
  | 0xC#4 => .ok (.leaB n m)
  | 0xD#4 => .ok (.leaW n m)
  | 0xE#4 => .ok (.leaL n m)
  | 0xF#4 => .ok (.leaQ n m)
  | _ => .error .unassigned

/-- Block 5 (30_encoding.md R99). -/
def decodeBlock5 (b n m : BitVec 4) : Except Reject Instr :=
  match b with
  | 0x6#4 => .ok (.muls n m)
  | 0x7#4 => .ok (.mulu n m)
  | 0x8#4 => .ok (.addDlr n m)
  | 0x9#4 => .ok (.subDlr n m)
  | 0xD#4 => .ok (.andDlr n m)
  | 0xE#4 => .ok (.orDlr n m)
  | 0xF#4 => .ok (.xorDlr n m)
  | _ => .error .unassigned

/-- Block 8; a displacement field of 0 is unassigned (30_encoding.md R100). -/
def decodeBlock8 (b n m : BitVec 4) : Except Reject Instr :=
  match b with
  | 0x1#4 => .ok (.movlStoreDisp4 n m)
  | 0x2#4 => .ok (.movlStoreDisp8 n m)
  | 0x3#4 => .ok (.movlStoreDisp12 n m)
  | 0x4#4 => .ok (.movlStoreDisp16 n m)
  | 0x5#4 => .ok (.movlStoreDisp20 n m)
  | 0x6#4 => .ok (.movlStoreDisp24 n m)
  | 0x7#4 => .ok (.movlStoreDisp28 n m)
  | 0x9#4 => .ok (.movlLoadDisp4 n m)
  | 0xA#4 => .ok (.movlLoadDisp8 n m)
  | 0xB#4 => .ok (.movlLoadDisp12 n m)
  | 0xC#4 => .ok (.movlLoadDisp16 n m)
  | 0xD#4 => .ok (.movlLoadDisp20 n m)
  | 0xE#4 => .ok (.movlLoadDisp24 n m)
  | 0xF#4 => .ok (.movlLoadDisp28 n m)
  | _ => .error .zeroDisplacement

/-- The words 30zz: only bits 3..0 = 0 and bits 7..4 up to 0xC are instructions (30_encoding.md R97, R104). -/
def decodeNoOperand (n m : BitVec 4) : Except Reject Instr :=
  match n, m with
  | 0x0#4, 0x0#4 => .ok .nop
  | 0x1#4, 0x0#4 => .ok .rts
  | 0x2#4, 0x0#4 => .ok .sleep
  | 0x3#4, 0x0#4 => .ok .breakpoint
  | 0x4#4, 0x0#4 => .ok .clrt
  | 0x5#4, 0x0#4 => .ok .sett
  | 0x6#4, 0x0#4 => .ok .clrs
  | 0x7#4, 0x0#4 => .ok .sets
  | 0x8#4, 0x0#4 => .ok .nott
  | 0x9#4, 0x0#4 => .ok .nots
  | 0xA#4, 0x0#4 => .ok .ldish16Zero
  | 0xB#4, 0x0#4 => .ok .ldish16Ones
  | 0xC#4, 0x0#4 => .ok .rte
  | _, _ => .error .unassigned

/-- The words 31nz (30_encoding.md R97). -/
def decodeOneRegister31 (n m : BitVec 4) : Except Reject Instr :=
  match m with
  | 0x8#4 => .ok (.pushReg n)
  | 0x9#4 => .ok (.pushCtl n)
  | 0xA#4 => .ok (.popReg n)
  | 0xB#4 => .ok (.popCtl n)
  | 0xC#4 => .ok (.cmppl n)
  | 0xD#4 => .ok (.cmppz n)
  | _ => .error .unassigned

/-- The words 32nz (30_encoding.md R97). -/
def decodeOneRegister32 (n m : BitVec 4) : Except Reject Instr :=
  match m with
  | 0x0#4 => .ok (.braReg n)
  | 0x1#4 => .ok (.bsrReg n)
  | 0x2#4 => .ok (.btReg n)
  | 0x3#4 => .ok (.bfReg n)
  | 0x4#4 => .ok (.extuB n)
  | 0x5#4 => .ok (.extuW n)
  | 0x6#4 => .ok (.extsB n)
  | 0x7#4 => .ok (.extsW n)
  | _ => .error .unassigned

/-- The words 33nz (30_encoding.md R97). -/
def decodeOneRegister33 (n m : BitVec 4) : Except Reject Instr :=
  match m with
  | 0x0#4 => .ok (.notReg n)
  | 0x1#4 => .ok (.negReg n)
  | 0x2#4 => .ok (.negcReg n)
  | 0x3#4 => .ok (.movnt n)
  | 0x4#4 => .ok (.rotl n)
  | 0x5#4 => .ok (.rotr n)
  | 0x6#4 => .ok (.rotcl n)
  | 0x7#4 => .ok (.rotcr n)
  | 0x8#4 => .ok (.shll n)
  | 0x9#4 => .ok (.shlr n)
  | 0xA#4 => .ok (.shar n)
  | _ => .error .unassigned

/-- The words 34nz (30_encoding.md R97). -/
def decodeOneRegister34 (n m : BitVec 4) : Except Reject Instr :=
  match m with
  | 0x0#4 => .ok (.shll1 n)
  | 0x1#4 => .ok (.shll2 n)
  | 0x2#4 => .ok (.shll4 n)
  | 0x3#4 => .ok (.shll8 n)
  | 0x4#4 => .ok (.shlr1 n)
  | 0x5#4 => .ok (.shlr2 n)
  | 0x6#4 => .ok (.shlr4 n)
  | 0x7#4 => .ok (.shlr8 n)
  | 0x8#4 => .ok (.shar1 n)
  | 0x9#4 => .ok (.shar2 n)
  | 0xA#4 => .ok (.shar4 n)
  | 0xB#4 => .ok (.shar8 n)
  | 0xC#4 => .ok (.shll16 n)
  | 0xD#4 => .ok (.shlr16 n)
  | 0xE#4 => .ok (.shar16 n)
  | 0xF#4 => .ok (.sharsx n)
  | _ => .error .unassigned

/-- The words 36nz (30_encoding.md R97). -/
def decodeOneRegister36 (n m : BitVec 4) : Except Reject Instr :=
  match m with
  | 0x3#4 => .ok (.trap n)
  | 0x6#4 => .ok (.shld n)
  | 0x7#4 => .ok (.shad n)
  | 0xD#4 => .ok (.cmphsDlr n)
  | 0xE#4 => .ok (.cmpgeDlr n)
  | 0xF#4 => .ok (.movt n)
  | _ => .error .unassigned

/-- The words 37nz (30_encoding.md R97). -/
def decodeOneRegister37 (n m : BitVec 4) : Except Reject Instr :=
  match m with
  | 0x0#4 => .ok (.swapB n)
  | 0x1#4 => .ok (.swapW n)
  | 0x4#4 => .ok (.swapLb n)
  | _ => .error .unassigned

/-- The words 38nz (30_encoding.md R97). -/
def decodeOneRegister38 (n m : BitVec 4) : Except Reject Instr :=
  match m with
  | 0x2#4 => .ok (.pushFpu n)
  | 0x3#4 => .ok (.popFpu n)
  | _ => .error .unassigned

/-- Block 3 (30_encoding.md R97). -/
def decodeBlock3 (b n m : BitVec 4) : Except Reject Instr :=
  match b with
  | 0x0#4 => decodeNoOperand n m
  | 0x1#4 => decodeOneRegister31 n m
  | 0x2#4 => decodeOneRegister32 n m
  | 0x3#4 => decodeOneRegister33 n m
  | 0x4#4 => decodeOneRegister34 n m
  | 0x6#4 => decodeOneRegister36 n m
  | 0x7#4 => decodeOneRegister37 n m
  | 0x8#4 => decodeOneRegister38 n m
  | _ => .error .unassigned

/-- The words 9Fnz (30_encoding.md R101, 46_fpu.md R381). -/
def decodeOneFpu (n m : BitVec 4) : Except Reject Instr :=
  match m with
  | 0x0#4 => .ok (.fldcf n)
  | 0x1#4 => .ok (.fldcd n)
  | 0x2#4 => .ok (.fldci n)
  | 0x3#4 => .ok (.fldch n)
  | 0x4#4 => .ok (.fstcf n)
  | 0x5#4 => .ok (.fstcd n)
  | 0x6#4 => .ok (.fstci n)
  | 0x7#4 => .ok (.fstch n)
  | 0x8#4 => .ok (.fneg n)
  | 0x9#4 => .ok (.fabs n)
  | 0xA#4 | 0xB#4 | 0xC#4 | 0xD#4 => .error .undefinedMark
  | _ => .error .unassigned

/-- Block 9, the FPU block (30_encoding.md R101). -/
def decodeBlock9 (b n m : BitVec 4) : Except Reject Instr :=
  match b with
  | 0x0#4 => .ok (.fmovsStore n m)
  | 0x1#4 => .ok (.fmovdStore n m)
  | 0x2#4 => .ok (.fmovsStoreDlr n m)
  | 0x3#4 => .ok (.fmovdStoreDlr n m)
  | 0x4#4 => .ok (.fmovsLoad n m)
  | 0x5#4 => .ok (.fmovdLoad n m)
  | 0x6#4 => .ok (.fmovsLoadDlr n m)
  | 0x7#4 => .ok (.fmovdLoadDlr n m)
  | 0x8#4 => .ok (.fadd n m)
  | 0x9#4 => .ok (.fsub n m)
  | 0xA#4 => .ok (.fmul n m)
  | 0xC#4 => .ok (.fcmpeq n m)
  | 0xD#4 => .ok (.fcmpgt n m)
  | 0xE#4 => .ok (.fmovReg n m)
  | 0xF#4 => decodeOneFpu n m
  | _ => .error .undefinedMark

/-- The major block is bits 15..12 (30_encoding.md R93). -/
def decodeNibbles (a b n m : BitVec 4) : Except Reject Instr :=
  match a with
  | 0x0#4 => decodeBlock0 b n m
  | 0x1#4 => decodeBlock1 b n m
  | 0x2#4 => decodeBlock2 b n m
  | 0x3#4 => decodeBlock3 b n m
  | 0x4#4 => decodeBlock4 b n m
  | 0x5#4 => decodeBlock5 b n m
  | 0x6#4 => .error .reservedBlock
  | 0x7#4 => .error .reservedBlock
  | 0x8#4 => decodeBlock8 b n m
  | 0x9#4 => decodeBlock9 b n m
  | 0xA#4 => .ok (.ldiz12 (b ++ n ++ m))
  | 0xB#4 => .ok (.ldin12 (b ++ n ++ m))
  | 0xC#4 => .ok (.addImm b (n ++ m))
  | 0xD#4 => .ok (.movImm b (n ++ m))
  | 0xE#4 => .error .longerForm
  | 0xF#4 => .error .longerForm
  | _ => .error .unassigned

/-- The instruction a 16-bit word stands for. -/
def decodeWord (w : Half) : Except Reject Instr :=
  decodeNibbles (nibbleA w) (nibbleB w) (nibbleN w) (nibbleM w)

/-- The word in two bytes, the low byte first (20_memory.md R62). -/
def wordOfBytes (lo hi : Byte) : Half := hi ++ lo

/-- Decode the first instruction of a byte string and give the bytes after it. -/
def decodeBytes : List Byte → Except Reject (Instr × List Byte)
  | lo :: hi :: rest => (decodeWord (wordOfBytes lo hi)).map fun i => (i, rest)
  | _ => .error .truncated

/-! The encoder, from the same tables. -/

/-- A word from its four nibbles, the high one first (00_scope.md R8). -/
def nibbles (a b n m : BitVec 4) : Half := a ++ b ++ n ++ m

/-- Bits 7..4 of an 8-bit field. -/
def high4 (v : BitVec 8) : BitVec 4 := v.extractLsb' 4 4
/-- Bits 3..0 of a field. -/
def low4 {k : Nat} (v : BitVec k) : BitVec 4 := v.extractLsb' 0 4
/-- Bits 11..8 of a 12-bit field. -/
def top4 (v : BitVec 12) : BitVec 4 := v.extractLsb' 8 4
/-- Bits 7..4 of a 12-bit field. -/
def mid4 (v : BitVec 12) : BitVec 4 := v.extractLsb' 4 4

/-- The word of an instruction. -/
def encode : Instr → Half
  | .movbStore n m => nibbles 0x0#4 0x0#4 n m
  | .movwStore n m => nibbles 0x0#4 0x1#4 n m
  | .movlStore n m => nibbles 0x0#4 0x2#4 n m
  | .movubLoad n m => nibbles 0x0#4 0x3#4 n m
  | .movbStoreDlr n m => nibbles 0x0#4 0x4#4 n m
  | .movwStoreDlr n m => nibbles 0x0#4 0x5#4 n m
  | .movlStoreDlr n m => nibbles 0x0#4 0x6#4 n m
  | .movubLoadDlr n m => nibbles 0x0#4 0x7#4 n m
  | .movbLoad n m => nibbles 0x0#4 0x8#4 n m
  | .movwLoad n m => nibbles 0x0#4 0x9#4 n m
  | .movlLoad n m => nibbles 0x0#4 0xA#4 n m
  | .movuwLoad n m => nibbles 0x0#4 0xB#4 n m
  | .movbLoadDlr n m => nibbles 0x0#4 0xC#4 n m
  | .movwLoadDlr n m => nibbles 0x0#4 0xD#4 n m
  | .movlLoadDlr n m => nibbles 0x0#4 0xE#4 n m
  | .movuwLoadDlr n m => nibbles 0x0#4 0xF#4 n m
  | .addReg n m => nibbles 0x1#4 0x0#4 n m
  | .subReg n m => nibbles 0x1#4 0x1#4 n m
  | .adcReg n m => nibbles 0x1#4 0x2#4 n m
  | .sbbReg n m => nibbles 0x1#4 0x3#4 n m
  | .tstReg n m => nibbles 0x1#4 0x4#4 n m
  | .andReg n m => nibbles 0x1#4 0x5#4 n m
  | .orReg n m => nibbles 0x1#4 0x6#4 n m
  | .xorReg n m => nibbles 0x1#4 0x7#4 n m
  | .movReg n m => nibbles 0x1#4 0x8#4 n m
  | .cmpeqReg n m => nibbles 0x1#4 0xC#4 n m
  | .cmphiReg n m => nibbles 0x1#4 0xD#4 n m
  | .cmpgtReg n m => nibbles 0x1#4 0xE#4 n m
  | .braDisp d => nibbles 0x2#4 0x0#4 (high4 d) (low4 d)
  | .bsrDisp d => nibbles 0x2#4 0x1#4 (high4 d) (low4 d)
  | .btDisp d => nibbles 0x2#4 0x2#4 (high4 d) (low4 d)
  | .bfDisp d => nibbles 0x2#4 0x3#4 (high4 d) (low4 d)
  | .ldiz8 j => nibbles 0x2#4 0x4#4 (high4 j) (low4 j)
  | .ldin8 j => nibbles 0x2#4 0x5#4 (high4 j) (low4 j)
  | .ldish j => nibbles 0x2#4 0x6#4 (high4 j) (low4 j)
  | .movuwLoadSp n d => nibbles 0x2#4 0x7#4 n d
  | .movlStoreSp n d => nibbles 0x2#4 0x8#4 n d
  | .movwStoreSp n d => nibbles 0x2#4 0x9#4 n d
  | .movlLoadSp n d => nibbles 0x2#4 0xA#4 n d
  | .movwLoadSp n d => nibbles 0x2#4 0xB#4 n d
  | .cmpeqImmU n j => nibbles 0x2#4 0xC#4 n j
  | .cmpeqImmN n j => nibbles 0x2#4 0xD#4 n j
  | .cmpgtImm n j => nibbles 0x2#4 0xE#4 n j
  | .cmpgeImm n j => nibbles 0x2#4 0xF#4 n j
  | .nop => nibbles 0x3#4 0x0#4 0x0#4 0x0#4
  | .rts => nibbles 0x3#4 0x0#4 0x1#4 0x0#4
  | .sleep => nibbles 0x3#4 0x0#4 0x2#4 0x0#4
  | .breakpoint => nibbles 0x3#4 0x0#4 0x3#4 0x0#4
  | .clrt => nibbles 0x3#4 0x0#4 0x4#4 0x0#4
  | .sett => nibbles 0x3#4 0x0#4 0x5#4 0x0#4
  | .clrs => nibbles 0x3#4 0x0#4 0x6#4 0x0#4
  | .sets => nibbles 0x3#4 0x0#4 0x7#4 0x0#4
  | .nott => nibbles 0x3#4 0x0#4 0x8#4 0x0#4
  | .nots => nibbles 0x3#4 0x0#4 0x9#4 0x0#4
  | .ldish16Zero => nibbles 0x3#4 0x0#4 0xA#4 0x0#4
  | .ldish16Ones => nibbles 0x3#4 0x0#4 0xB#4 0x0#4
  | .rte => nibbles 0x3#4 0x0#4 0xC#4 0x0#4
  | .pushReg n => nibbles 0x3#4 0x1#4 n 0x8#4
  | .pushCtl n => nibbles 0x3#4 0x1#4 n 0x9#4
  | .popReg n => nibbles 0x3#4 0x1#4 n 0xA#4
  | .popCtl n => nibbles 0x3#4 0x1#4 n 0xB#4
  | .cmppl n => nibbles 0x3#4 0x1#4 n 0xC#4
  | .cmppz n => nibbles 0x3#4 0x1#4 n 0xD#4
  | .braReg n => nibbles 0x3#4 0x2#4 n 0x0#4
  | .bsrReg n => nibbles 0x3#4 0x2#4 n 0x1#4
  | .btReg n => nibbles 0x3#4 0x2#4 n 0x2#4
  | .bfReg n => nibbles 0x3#4 0x2#4 n 0x3#4
  | .extuB n => nibbles 0x3#4 0x2#4 n 0x4#4
  | .extuW n => nibbles 0x3#4 0x2#4 n 0x5#4
  | .extsB n => nibbles 0x3#4 0x2#4 n 0x6#4
  | .extsW n => nibbles 0x3#4 0x2#4 n 0x7#4
  | .notReg n => nibbles 0x3#4 0x3#4 n 0x0#4
  | .negReg n => nibbles 0x3#4 0x3#4 n 0x1#4
  | .negcReg n => nibbles 0x3#4 0x3#4 n 0x2#4
  | .movnt n => nibbles 0x3#4 0x3#4 n 0x3#4
  | .rotl n => nibbles 0x3#4 0x3#4 n 0x4#4
  | .rotr n => nibbles 0x3#4 0x3#4 n 0x5#4
  | .rotcl n => nibbles 0x3#4 0x3#4 n 0x6#4
  | .rotcr n => nibbles 0x3#4 0x3#4 n 0x7#4
  | .shll n => nibbles 0x3#4 0x3#4 n 0x8#4
  | .shlr n => nibbles 0x3#4 0x3#4 n 0x9#4
  | .shar n => nibbles 0x3#4 0x3#4 n 0xA#4
  | .shll1 n => nibbles 0x3#4 0x4#4 n 0x0#4
  | .shll2 n => nibbles 0x3#4 0x4#4 n 0x1#4
  | .shll4 n => nibbles 0x3#4 0x4#4 n 0x2#4
  | .shll8 n => nibbles 0x3#4 0x4#4 n 0x3#4
  | .shlr1 n => nibbles 0x3#4 0x4#4 n 0x4#4
  | .shlr2 n => nibbles 0x3#4 0x4#4 n 0x5#4
  | .shlr4 n => nibbles 0x3#4 0x4#4 n 0x6#4
  | .shlr8 n => nibbles 0x3#4 0x4#4 n 0x7#4
  | .shar1 n => nibbles 0x3#4 0x4#4 n 0x8#4
  | .shar2 n => nibbles 0x3#4 0x4#4 n 0x9#4
  | .shar4 n => nibbles 0x3#4 0x4#4 n 0xA#4
  | .shar8 n => nibbles 0x3#4 0x4#4 n 0xB#4
  | .shll16 n => nibbles 0x3#4 0x4#4 n 0xC#4
  | .shlr16 n => nibbles 0x3#4 0x4#4 n 0xD#4
  | .shar16 n => nibbles 0x3#4 0x4#4 n 0xE#4
  | .sharsx n => nibbles 0x3#4 0x4#4 n 0xF#4
  | .trap j => nibbles 0x3#4 0x6#4 j 0x3#4
  | .shld n => nibbles 0x3#4 0x6#4 n 0x6#4
  | .shad n => nibbles 0x3#4 0x6#4 n 0x7#4
  | .cmphsDlr n => nibbles 0x3#4 0x6#4 n 0xD#4
  | .cmpgeDlr n => nibbles 0x3#4 0x6#4 n 0xE#4
  | .movt n => nibbles 0x3#4 0x6#4 n 0xF#4
  | .swapB n => nibbles 0x3#4 0x7#4 n 0x0#4
  | .swapW n => nibbles 0x3#4 0x7#4 n 0x1#4
  | .swapLb n => nibbles 0x3#4 0x7#4 n 0x4#4
  | .pushFpu n => nibbles 0x3#4 0x8#4 n 0x2#4
  | .popFpu n => nibbles 0x3#4 0x8#4 n 0x3#4
  | .movToCtl n m => nibbles 0x4#4 0x8#4 n m
  | .movFromCtl n m => nibbles 0x4#4 0x9#4 n m
  | .movToShadow n m => nibbles 0x4#4 0xA#4 n m
  | .movFromShadow n m => nibbles 0x4#4 0xB#4 n m
  | .leaB n m => nibbles 0x4#4 0xC#4 n m
  | .leaW n m => nibbles 0x4#4 0xD#4 n m
  | .leaL n m => nibbles 0x4#4 0xE#4 n m
  | .leaQ n m => nibbles 0x4#4 0xF#4 n m
  | .muls n m => nibbles 0x5#4 0x6#4 n m
  | .mulu n m => nibbles 0x5#4 0x7#4 n m
  | .addDlr n m => nibbles 0x5#4 0x8#4 n m
  | .subDlr n m => nibbles 0x5#4 0x9#4 n m
  | .andDlr n m => nibbles 0x5#4 0xD#4 n m
  | .orDlr n m => nibbles 0x5#4 0xE#4 n m
  | .xorDlr n m => nibbles 0x5#4 0xF#4 n m
  | .movlStoreDisp4 n m => nibbles 0x8#4 0x1#4 n m
  | .movlStoreDisp8 n m => nibbles 0x8#4 0x2#4 n m
  | .movlStoreDisp12 n m => nibbles 0x8#4 0x3#4 n m
  | .movlStoreDisp16 n m => nibbles 0x8#4 0x4#4 n m
  | .movlStoreDisp20 n m => nibbles 0x8#4 0x5#4 n m
  | .movlStoreDisp24 n m => nibbles 0x8#4 0x6#4 n m
  | .movlStoreDisp28 n m => nibbles 0x8#4 0x7#4 n m
  | .movlLoadDisp4 n m => nibbles 0x8#4 0x9#4 n m
  | .movlLoadDisp8 n m => nibbles 0x8#4 0xA#4 n m
  | .movlLoadDisp12 n m => nibbles 0x8#4 0xB#4 n m
  | .movlLoadDisp16 n m => nibbles 0x8#4 0xC#4 n m
  | .movlLoadDisp20 n m => nibbles 0x8#4 0xD#4 n m
  | .movlLoadDisp24 n m => nibbles 0x8#4 0xE#4 n m
  | .movlLoadDisp28 n m => nibbles 0x8#4 0xF#4 n m
  | .fmovsStore n m => nibbles 0x9#4 0x0#4 n m
  | .fmovdStore n m => nibbles 0x9#4 0x1#4 n m
  | .fmovsStoreDlr n m => nibbles 0x9#4 0x2#4 n m
  | .fmovdStoreDlr n m => nibbles 0x9#4 0x3#4 n m
  | .fmovsLoad n m => nibbles 0x9#4 0x4#4 n m
  | .fmovdLoad n m => nibbles 0x9#4 0x5#4 n m
  | .fmovsLoadDlr n m => nibbles 0x9#4 0x6#4 n m
  | .fmovdLoadDlr n m => nibbles 0x9#4 0x7#4 n m
  | .fadd n m => nibbles 0x9#4 0x8#4 n m
  | .fsub n m => nibbles 0x9#4 0x9#4 n m
  | .fmul n m => nibbles 0x9#4 0xA#4 n m
  | .fcmpeq n m => nibbles 0x9#4 0xC#4 n m
  | .fcmpgt n m => nibbles 0x9#4 0xD#4 n m
  | .fmovReg n m => nibbles 0x9#4 0xE#4 n m
  | .fldcf n => nibbles 0x9#4 0xF#4 n 0x0#4
  | .fldcd n => nibbles 0x9#4 0xF#4 n 0x1#4
  | .fldci n => nibbles 0x9#4 0xF#4 n 0x2#4
  | .fldch n => nibbles 0x9#4 0xF#4 n 0x3#4
  | .fstcf n => nibbles 0x9#4 0xF#4 n 0x4#4
  | .fstcd n => nibbles 0x9#4 0xF#4 n 0x5#4
  | .fstci n => nibbles 0x9#4 0xF#4 n 0x6#4
  | .fstch n => nibbles 0x9#4 0xF#4 n 0x7#4
  | .fneg n => nibbles 0x9#4 0xF#4 n 0x8#4
  | .fabs n => nibbles 0x9#4 0xF#4 n 0x9#4
  | .ldiz12 j => nibbles 0xA#4 (top4 j) (mid4 j) (low4 j)
  | .ldin12 j => nibbles 0xB#4 (top4 j) (mid4 j) (low4 j)
  | .addImm n i => nibbles 0xC#4 n (high4 i) (low4 i)
  | .movImm n i => nibbles 0xD#4 n (high4 i) (low4 i)

/-- The bytes of an instruction word as memory holds them, lowest address first (20_memory.md R62). -/
def encodeBytes (i : Instr) : List Byte := [(encode i).extractLsb' 0 8, (encode i).extractLsb' 8 8]

/-- What the decoder reads from the word whose bits are `w`, `nbits` of them given by the opcode table and all above
zero, laid out as the hardware stores it (20_memory.md R62). -/
def decodeTableWord (nbits w : Nat) : Option Instr :=
  let bits := BitVec.ofNat 16 (w % 2 ^ nbits)
  match decodeBytes [bits.extractLsb' 0 8, bits.extractLsb' 8 8] with
  | .ok (i, _) => some i
  | .error _ => none

end Sys2Proof
end

