-- ==== Sys2Proof/Machine/State.lean ====
section
/-! DEFINITION. The state of the machine as plain data, the reasons a step can stop, and the state after reset
(10_state.md R20 to R53). INVENTORY.md lists each field with its rule and its reset value. -/

namespace Sys2Proof.Machine

/-- SR, the status register, by its fields (10_state.md R33). All 32 bits are here, those without a function too (R39);
`Flags.lean` packs them into the word software sees. Held by fields so that the free draw a branch puts in T (R29) leaves
the other bits plain (log entry 24). -/
structure StatusReg where
  /-- Bit 0, T: true/false status and carry (R35). -/
  t   : Bool
  /-- Bit 1, S (R36). -/
  s   : Bool
  /-- Bits 3:2, IPL (R37). -/
  ipl : BitVec 2
  /-- Bit 4, P. -/
  p   : Bool
  /-- Bit 5, Q. -/
  q   : Bool
  /-- Bit 6, R. -/
  r   : Bool
  /-- Bit 7, O. -/
  o   : Bool
  /-- Bits 27:8, plain storage (R39). -/
  mid : BitVec 20
  /-- Bit 28, BL: interrupts blocked (R38). -/
  bl  : Bool
  /-- Bit 29, RB (R38). -/
  rb  : Bool
  /-- Bit 30, MD: supervisor mode (R38, 60_exceptions.md R440). -/
  md  : Bool
  /-- Bit 31, plain storage (R39). -/
  top : Bool
deriving DecidableEq, Repr, Inhabited

/-- The byte array of 20_memory.md R60: the listed bytes, addresses strictly rising, and what every other address reads
as. `fill` is an input of the machine, as the whole image is (70_reset_and_hazards.md R452; log entry 8). -/
structure Memory where
  fill  : Byte
  cells : List Host.Cell
deriving DecidableEq, Repr, Inhabited

/-- A set of interrupt sources (60_exceptions.md R402, R420). -/
structure IrqSet where
  general : Bool
  timer   : Bool
  uart    : Bool
  spi     : Bool
deriving DecidableEq, Repr, Inhabited

/-- One access the core made to device bytes, as the environment sees it (20_memory.md R72; log entry 19). The bytes of one
access are listed from its lowest address; their order in time is not stated (R67). -/
inductive DevEvent where
  /-- A load or a fetch read these addresses. -/
  | read (addrs : List Nat)
  /-- A store wrote these bytes. -/
  | write (cells : List Host.Cell)
deriving DecidableEq, Repr, Inhabited

/-- The machine. -/
structure State where
  /-- MODEL's own: the implementation's parameters (00_scope.md R7), never changed. -/
  cfg      : Config
  /-- R0..R15 (R20). -/
  regs     : Vector Word 16
  /-- C0, the address of the instruction being executed (R30). -/
  pc       : Word
  /-- C1 (R40). -/
  lr       : Word
  /-- C2 (R33). -/
  sr       : StatusReg
  /-- C3 (R41). -/
  vbr      : Word
  /-- C4 (R42). -/
  spc      : Word
  /-- C5 (R43). -/
  ssp      : Word
  /-- C6 (R44). -/
  gbr      : Word
  /-- C7 (R45). -/
  tbr      : Word
  /-- C11 (R46). -/
  exsr     : Word
  /-- C12 (R47). -/
  ssr      : Word
  /-- FR0..FR15 (R49). -/
  fregs    : Vector DWord 16
  /-- Memory (R51). -/
  mem      : Memory
  /-- The interrupt sources requesting service (R52). -/
  pending  : IrqSet
  /-- Set by SLEEP, cleared by trap entry (R52). -/
  sleeping : Bool
  /-- MODEL's own: how many free values have been drawn. -/
  draws    : Nat
  /-- MODEL's own: the sets the environment will present as `pending` at the next boundaries (60_exceptions.md R420). -/
  inputs   : List IrqSet
  /-- MODEL's own: the memory addresses this run has stored to, strictly rising (20_memory.md R78). -/
  stored   : List Nat
  /-- MODEL's own: the device accesses made, the latest first (20_memory.md R72). -/
  devLog   : List DevEvent
deriving DecidableEq, Repr, Inhabited

/-- Why the machine stops where the spec gives no architectural behaviour and asks for a model-level fault. All are safe:
nothing is claimed of what hardware does there. -/
inductive Fault where
  /-- Raised by a step that fetched a word which is no instruction (30_encoding.md R105). Safe. -/
  | reservedWord (w : Half) (why : Reject) (pc : Word)
  /-- Raised by an instruction with a reserved operand value, and by the shadow-register moves (30_encoding.md R104, R105;
  93_implementation_defined.md U8, U10). Safe. -/
  | reservedOperand (w : Half) (pc : Word)
  /-- Raised by an FPU instruction of an implementation without that part (46_fpu.md R350). Safe. -/
  | partAbsent (w : Half) (pc : Word)
  /-- Raised by an exception or TRAP while SR.BL = 1 (60_exceptions.md R423). Safe. -/
  | exceptionWhileBlocked (code : Half) (pc : Word)
deriving DecidableEq, Repr

/-- Why the model gives no meaning. All are safe. -/
inductive Refusal where
  /-- An instruction without a meaning yet. Safe. -/
  | notModelled (mnemonic : String)
  /-- FLDCD where the implementation supplies no function for it (46_fpu.md R370). Safe. -/
  | fldcdNotSupplied
  /-- FSTCD where the implementation supplies no function for it (46_fpu.md R374). Safe. -/
  | fstcdNotSupplied
  /-- A fetch of a byte this run has stored, where the configuration asks for the refusal
  (93_implementation_defined.md U12). Safe. -/
  | selfModified (addr : Nat)
deriving DecidableEq, Repr

/-- A machine before reset with every value the spec leaves undefined at zero, no interrupt and no image
(DESIGN CHOICE, unsafe for statements about `State.reset`; log entries 2 to 8). -/
def State.blank : State :=
  { cfg := Config.atReset, regs := Vector.replicate 16 0, pc := 0, lr := 0,
    sr := { t := false, s := false, ipl := 0, p := false, q := false, r := false, o := false, mid := 0,
            bl := false, rb := false, md := false, top := false },
    vbr := 0, spc := 0, ssp := 0, gbr := 0, tbr := 0, exsr := 0, ssr := 0, fregs := Vector.replicate 16 0,
    mem := { fill := 0, cells := [] },
    pending := { general := false, timer := false, uart := false, spi := false },
    sleeping := false, draws := 0, inputs := [], stored := [], devLog := [] }

/-- The reset event (70_reset_and_hazards.md R450). Whatever reset leaves undefined is left as an arbitrary `s` has it, so
a statement for every `s` covers every undefined value. The bytes stored before the reset event still count as stored
(DESIGN CHOICE, safe: R450 and 20_memory.md R78 do not say whether the run after it is the same run; log entry 33). -/
def State.resetFrom (s : State) : State :=
  { s with
    vbr := s.cfg.resetVbr
    sr := { s.sr with bl := true, rb := true, md := true }
    sleeping := false
    pc := s.cfg.resetVbr + 0x00#32 }

/-- The machine right after reset (10_state.md R53): the reset event applied to `State.blank`. -/
def State.reset : State := State.resetFrom State.blank

end Sys2Proof.Machine
end

