-- ==== Sys2Proof/Machine/Flags.lean ====
section
/-! DEFINITION. SR as the word software sees (10_state.md R33), and every flag the spec computes: the carry and borrow of
ADC, SBB and NEGC, the relations of the compares, and the bit a one-bit shift moves into T. -/

namespace Sys2Proof.Machine

/-- All 32 bits of SR (10_state.md R33). -/
def StatusReg.toWord (r : StatusReg) : Word :=
  BitVec.ofBool r.top ++ BitVec.ofBool r.md ++ BitVec.ofBool r.rb ++ BitVec.ofBool r.bl ++ r.mid ++
    BitVec.ofBool r.o ++ BitVec.ofBool r.r ++ BitVec.ofBool r.q ++ BitVec.ofBool r.p ++ r.ipl ++
    BitVec.ofBool r.s ++ BitVec.ofBool r.t

/-- A whole-SR write: every bit is stored (10_state.md R39). -/
def StatusReg.ofWord (w : Word) : StatusReg :=
  { t := w.getLsbD 0, s := w.getLsbD 1, ipl := w.extractLsb' 2 2, p := w.getLsbD 4, q := w.getLsbD 5,
    r := w.getLsbD 6, o := w.getLsbD 7, mid := w.extractLsb' 8 20, bl := w.getLsbD 28, rb := w.getLsbD 29,
    md := w.getLsbD 30, top := w.getLsbD 31 }

/-- SR with a new T (10_state.md R35). -/
def StatusReg.withT (r : StatusReg) (b : Bool) : StatusReg := { r with t := b }

/-- SR with a new S (10_state.md R36). -/
def StatusReg.withS (r : StatusReg) (b : Bool) : StatusReg := { r with s := b }

/-- What trap entry does to SR: BL, RB and MD set, all else kept (10_state.md R38, 60_exceptions.md R410). -/
def StatusReg.entered (r : StatusReg) : StatusReg := { r with bl := true, rb := true, md := true }

/-- SR as an instruction sees it that no rule lists among the readers of a bit: the interrupt masks IPL and BL alone. T and S
have closed lists of readers (10_state.md R35, R36), nothing reads P, Q, R, O individually (R33), no rule reads bits 27:8 and
31 (R39), nothing depends on RB (60_exceptions.md R430) and no instruction on MD (R440). -/
def StatusReg.masks (r : StatusReg) : StatusReg :=
  { t := false, s := false, ipl := r.ipl, p := false, q := false, r := false, o := false, mid := 0#20, bl := r.bl,
    rb := false, md := false, top := false }

/-- A 33-bit sum of two registers and a carry: its low 32 bits and bit 32 (41_arith_logic.md R174). -/
def addCarry (x y : Word) (c : Bool) : Word × Bool :=
  let s33 : BitVec 33 := x.setWidth 33 + y.setWidth 33 + (BitVec.ofBool c).setWidth 33
  (s33.setWidth 32, s33.getLsbD 32)

/-- `x - y - borrow` by the complement sum of 41_arith_logic.md R175, and the borrow out. -/
def subBorrow (x y : Word) (borrow : Bool) : Word × Bool :=
  let r := addCarry x (~~~y) (!borrow)
  (r.1, !r.2)

/-! The relations of the compares; the destination register is the left operand (41_arith_logic.md R171). -/

/-- Unsigned greater-than (41_arith_logic.md R182). -/
def ugt (x y : Word) : Bool := y.ult x
/-- Unsigned greater-or-equal (41_arith_logic.md R190). -/
def uge (x y : Word) : Bool := y.ule x
/-- Signed greater-than (41_arith_logic.md R183). -/
def sgt (x y : Word) : Bool := y.slt x
/-- Signed greater-or-equal (41_arith_logic.md R187). -/
def sge (x y : Word) : Bool := y.sle x

/-- TST: no common bit (41_arith_logic.md R176). -/
def noCommonBit (x y : Word) : Bool := x &&& y == 0#32

end Sys2Proof.Machine
end

