-- ==== Sys2Proof/Machine/Memory.lean ====
section
/-! DEFINITION. Memory as a list of (address, byte) pairs in one canonical form, and sets of addresses: addresses strictly
rising, below 2^32, and no entry equal to what an unlisted address reads as. -/

namespace Sys2Proof.Machine

/-- Every address of the list is above `a`, and they rise strictly. -/
def risingFrom : Option Nat → List Nat → Bool
  | _, [] => true
  | none, a :: as => risingFrom (some a) as
  | some p, a :: as => decide (p < a) && risingFrom (some a) as

/-- The canonical form of a set of addresses. -/
def addrsWf (as : List Nat) : Bool := risingFrom none as && as.all (decide <| · < 4294967296)

/-- The canonical form of a memory. -/
def Memory.wf (m : Memory) : Bool :=
  addrsWf (m.cells.map (·.1)) && m.cells.all (fun c => c.2 != m.fill)

/-- The listed byte at an address, if there is one. -/
def lookupCell (a : Nat) : List Host.Cell → Option Byte
  | [] => none
  | (b, v) :: cs => if a = b then some v else lookupCell a cs

/-- Remove every entry at an address. -/
def eraseCell (a : Nat) : List Host.Cell → List Host.Cell
  | [] => []
  | (b, v) :: cs => if a = b then eraseCell a cs else (b, v) :: eraseCell a cs

/-- Put a byte at an address, keeping the addresses rising. -/
def insertCell (a : Nat) (v : Byte) : List Host.Cell → List Host.Cell
  | [] => [(a, v)]
  | (b, u) :: cs =>
    if a < b then (a, v) :: (b, u) :: cs
    else if a = b then (a, v) :: cs
    else (b, u) :: insertCell a v cs

/-- The byte at an address: the listed one, else what an unlisted address reads as (log entry 8). -/
def Memory.read (m : Memory) (a : Nat) : Byte := (lookupCell a m.cells).getD m.fill

/-- Store a byte; storing what an unlisted address reads as removes the entry. -/
def Memory.write (m : Memory) (a : Nat) (v : Byte) : Memory :=
  { m with cells := if v = m.fill then eraseCell a m.cells else insertCell a v m.cells }

/-- Put an address into a rising list of addresses. -/
def insertAddr (a : Nat) : List Nat → List Nat
  | [] => [a]
  | b :: bs => if a < b then a :: b :: bs else if a = b then b :: bs else b :: insertAddr a bs

end Sys2Proof.Machine
end

