-- ==== Sys2Proof/Machine/Ops.lean ====
section
/-! DEFINITION. The named operations over registers and memory: reads and writes of registers, the free draws and
clobbers (10_state.md R27 to R29), the data accesses with their checks (20_memory.md R63, R64), taking an exception
(60_exceptions.md R410) and returning from one (45_system.md R323). -/

namespace Sys2Proof.Machine

/-- What one step or one meaning answers. -/
abbrev Outcome := Host.Outcome State Fault Refusal

/-! ## Registers -/

/-- `x[n]` (00_scope.md R11). -/
def State.reg (s : State) (n : Reg) : Word := s.regs[n.toNat]'n.isLt

/-- `x[n] <- v` (00_scope.md R11). -/
def State.setReg (s : State) (n : Reg) (v : Word) : State := { s with regs := s.regs.set n.toNat v n.isLt }

/-- `f[n]` (46_fpu.md R351). -/
def State.freg (s : State) (n : FReg) : DWord := s.fregs[n.toNat]'n.isLt

/-- `f[n] <- v` (46_fpu.md R351). -/
def State.setFreg (s : State) (n : FReg) (v : DWord) : State := { s with fregs := s.fregs.set n.toNat v n.isLt }

/-- `pc <- v` (00_scope.md R11). -/
def State.setPc (s : State) (v : Word) : State := { s with pc := v }

/-- PC as an operand: the address of the following instruction (00_scope.md R12). -/
def State.pcNext (s : State) : Word := s.pc + 2#32

/-- Go on with the following instruction (00_scope.md R11). -/
def State.advance (s : State) : State := s.setPc s.pcNext

/-- `c[1] <- v`, LR (10_state.md R40). -/
def State.setLr (s : State) (v : Word) : State := { s with lr := v }

/-- A write of SR's fields (10_state.md R33). -/
def State.setSr (s : State) (r : StatusReg) : State := { s with sr := r }

/-- `SR.T <- b` (10_state.md R35). -/
def State.setT (s : State) (b : Bool) : State := s.setSr (s.sr.withT b)

/-- `SR.S <- b` (10_state.md R36). -/
def State.setS (s : State) (b : Bool) : State := s.setSr (s.sr.withS b)

/-- `sleeping <- b` (45_system.md R320). -/
def State.setSleeping (s : State) (b : Bool) : State := { s with sleeping := b }

/-- The state as the function of FLDCD and that of FSTCD see it: of SR only BL, as IPL "is a mask only"
(60_exceptions.md R421; DESIGN CHOICE, log entry 18). -/
def State.fpuView (s : State) : State := s.setSr { s.sr.masks with ipl := 0#2 }

/-- The state as an unstated `sleep_invalid` sees it: of SR only IPL and BL, which R320 offers; no FPU register, as only FPU
instructions read them (10_state.md R49); no memory byte, as no instruction both accesses memory and raises SLEEP
(60_exceptions.md R422; DESIGN CHOICE, log entry 13). -/
def State.sleepView (s : State) : State :=
  { s.setSr s.sr.masks with fregs := Vector.replicate 16 0#64, mem := { fill := 0#8, cells := [] } }

/-! ## Control registers -/

/-- `c[n]` as a source: PC reads as the following instruction's address; the unnamed numbers hold nothing
(10_state.md R48, 45_system.md R324, R326). -/
def State.creg (s : State) (n : CReg) : Option Word :=
  match n with
  | 0#4 => some s.pcNext
  | 1#4 => some s.lr
  | 2#4 => some s.sr.toWord
  | 3#4 => some s.vbr
  | 4#4 => some s.spc
  | 5#4 => some s.ssp
  | 6#4 => some s.gbr
  | 7#4 => some s.tbr
  | 11#4 => some s.exsr
  | 12#4 => some s.ssr
  | _ => none

/-- `c[n] <- v`: C0 and the unnamed numbers cannot be written (45_system.md R324, R325). -/
def State.setCreg (s : State) (n : CReg) (v : Word) : Option State :=
  match n with
  | 1#4 => some (s.setLr v)
  | 2#4 => some (s.setSr (StatusReg.ofWord v))
  | 3#4 => some { s with vbr := v }
  | 4#4 => some { s with spc := v }
  | 5#4 => some { s with ssp := v }
  | 6#4 => some { s with gbr := v }
  | 7#4 => some { s with tbr := v }
  | 11#4 => some { s with exsr := v }
  | 12#4 => some { s with ssr := v }
  | _ => none

/-! ## Free values and clobbers -/

/-- `x[n] <- undef32()`: a fresh free word (00_scope.md R11). -/
def State.drawReg (s : State) (n : Reg) : State :=
  { s.setReg n (Config.freeWord s.draws) with draws := s.draws + 1 }

/-- `SR.T <- undef1()`: a fresh free bit (00_scope.md R11). -/
def State.drawT (s : State) : State :=
  { s.setT (Config.freeBit s.draws) with draws := s.draws + 1 }

/-- A register becomes undefined unless it is the instruction's named destination (10_state.md R27, R28). -/
def State.clobber (s : State) (n : Reg) (dst : Option Reg) : State := if dst = some n then s else s.drawReg n

/-- The clobber of a use of DLR (10_state.md R27 item 2). -/
def State.dlrClobber (s : State) (dst : Option Reg) : State := s.clobber dlr dst

/-- The clobber of a MOV.x operation; a store names no destination (40_load_store.md R120). -/
def State.movClobber (s : State) (dst : Option Reg) : State := (s.clobber dlr dst).clobber dhr dst

/-- The clobber of a branch, taken or not (42_branch.md R220). -/
def State.branchClobber (s : State) : State := ((s.drawReg dlr).drawReg dhr).drawT

/-! ## MemMap and bytes -/

/-- The region an address lies in: the first that has it (20_memory.md R73; log entry 20). -/
def regionAt (cfg : Config) (a : Nat) : Option Region :=
  cfg.memMap.find? fun r => decide (r.base ≤ a) && decide (a < r.base + r.size)

/-- The address belongs to a device (20_memory.md R72). -/
def State.isDevice (s : State) (a : Nat) : Bool :=
  match regionAt s.cfg a with
  | some r => r.kind == .device
  | none => false

/-- The address of byte `i` of an access, modulo 2^32 (20_memory.md R67, R80). -/
def byteAddr (a : Word) (i : Nat) : Nat := (a + BitVec.ofNat 32 i).toNat

/-- The addresses of an access of `n` bytes, lowest first. -/
def accessAddrs (a : Word) (n : Nat) : List Nat := (List.range n).map (byteAddr a)

/-- The checks of an access in their order: alignment, existence, permission (20_memory.md R63, R64). -/
def State.checkAccess (s : State) (a : Word) (n : Nat) (allows : Region → Bool) (misaligned denied : Half) :
    Option Half :=
  if !s.cfg.misalignedOk && a.toNat % n != 0 then some misaligned
  else if (accessAddrs a n).any fun b => (regionAt s.cfg b).isNone then some 0x8000#16
  else if (accessAddrs a n).any fun b => !(regionAt s.cfg b).any allows then some denied
  else none

/-- The byte a read of one address gives: the memory's byte, or a device's answer, which is a free value
(20_memory.md R72). -/
def State.byteAt (s : State) (draw : Nat) (a : Nat) : Byte :=
  if s.isDevice a then Config.deviceByte draw a else s.mem.read a

/-- The bytes of an access, lowest address first. -/
def State.loadBytes (s : State) (a : Word) (n : Nat) : List Byte :=
  (List.range n).map fun i => s.byteAt (s.draws + i) (byteAddr a i)

/-- A read that touches a device uses up free values and is seen by the environment (20_memory.md R72). -/
def State.noteLoad (s : State) (a : Word) (n : Nat) : State :=
  if (accessAddrs a n).any s.isDevice then
    { s with draws := s.draws + n, devLog := .read ((accessAddrs a n).filter s.isDevice) :: s.devLog }
  else s

/-- Store one byte: memory takes it, a device's bytes go to the environment (20_memory.md R72). -/
def State.storeCell (s : State) (c : Host.Cell) : State :=
  if s.isDevice c.1 then s
  else { s with mem := s.mem.write c.1 c.2, stored := insertAddr c.1 s.stored }

/-- The (address, byte) pairs of a stored value, little-endian (20_memory.md R61). -/
def cellsOf {w : Nat} (a : Word) (n : Nat) (v : BitVec w) : List Host.Cell :=
  (List.range n).map fun i => (byteAddr a i, v.extractLsb' (8 * i) 8)

/-- Store all the bytes of one access. -/
def State.storeCells (s : State) (cs : List Host.Cell) : State :=
  let t := cs.foldl State.storeCell s
  if cs.any fun c => s.isDevice c.1 then
    { t with devLog := .write (cs.filter fun c => s.isDevice c.1) :: t.devLog }
  else t

/-- Bytes, lowest first, as one little-endian value (20_memory.md R61). -/
def leWord (w : Nat) (bs : List Byte) : BitVec w :=
  bs.foldr (fun b acc => (acc <<< 8) ||| b.setWidth w) 0#w

/-- `MemRead(a, n)`: the bytes and the state after, or the code to raise (20_memory.md R63). -/
def State.memRead (s : State) (a : Word) (n : Nat) : Except Half (List Byte × State) :=
  match s.checkAccess a n Region.read 0x8009#16 0x8001#16 with
  | some code => .error code
  | none => .ok (s.loadBytes a n, s.noteLoad a n)

/-- `MemWrite(a, n, v)`: the state after, or the code to raise (20_memory.md R64). -/
def State.memWrite {w : Nat} (s : State) (a : Word) (n : Nat) (v : BitVec w) : Except Half State :=
  match s.checkAccess a n Region.write 0x800A#16 0x8002#16 with
  | some code => .error code
  | none => .ok (s.storeCells (cellsOf a n v))

/-! ## Taking an exception, and the return -/

/-- Trap entry (60_exceptions.md R410): save PC, SP and SR, set BL, RB and MD, put the code in EXSR, wake, and go on at
`VBR + off`. -/
def State.trapEntry (s : State) (code : Half) (off : Word) (ret : Word) : State :=
  { s with
    spc := ret
    ssp := s.reg sp
    ssr := s.sr.toWord
    sr := s.sr.entered
    exsr := code.setWidth 32
    sleeping := false
    pc := s.vbr + off }

/-- The address a general fault saves (60_exceptions.md R412, parameter `FAULT_SPC`). -/
def State.faultRet (s : State) : Word :=
  match s.cfg.faultSpc with
  | .faulting => s.pc
  | .following => s.pcNext
  | .drawn => if Config.freeBit s.draws then s.pc else s.pcNext

/-- A drawn fault address uses up one free value. -/
def State.faultDrawn (s : State) : State :=
  match s.cfg.faultSpc with
  | .drawn => { s with draws := s.draws + 1 }
  | _ => s

/-- `raise E(code)`, a general fault, from the state before the instruction (00_scope.md R11, 60_exceptions.md R410,
R414). With SR.BL = 1 the spec gives no behaviour (R423). -/
def State.raise (s : State) (code : Half) : Outcome :=
  if s.sr.bl then .fault (.exceptionWhileBlocked code s.pc)
  else .next (s.faultDrawn.trapEntry code 0x08#32 s.faultRet)

/-- A software interrupt: the following instruction is saved and the vector is `VBR + 0x10` (60_exceptions.md R411, R412,
R423). -/
def State.softInterrupt (s : State) (code : Half) : Outcome :=
  if s.sr.bl then .fault (.exceptionWhileBlocked code s.pc)
  else .next (s.trapEntry code 0x10#32 s.pcNext)

/-- The return from an exception (45_system.md R323): PC, SP and SR from SPC, SSP and SSR, then RB cleared. -/
def State.trapReturn (s : State) : State :=
  ((s.setReg sp s.ssp).setSr { StatusReg.ofWord s.ssr with rb := false }).setPc s.spc

/-- A reserved operand value: stop, naming the word and its address (30_encoding.md R105). -/
def State.reserved (s : State) (i : Instr) : Outcome := .fault (.reservedOperand (encode i) s.pc)

/-- An instruction of a part the implementation lacks (46_fpu.md R350). -/
def State.absent (s : State) (i : Instr) : Outcome := .fault (.partAbsent (encode i) s.pc)

/-! ## Whole instructions over one access -/

/-- A load: read, then let `done` write the destination, the clobber and the pc. -/
def State.loadThen (s : State) (a : Word) (n : Nat) (done : List Byte → State → State) : Outcome :=
  match s.memRead a n with
  | .error code => s.raise code
  | .ok (bs, t) => .next (done bs t)

/-- A store: write, then let `done` do the clobber, SP and the pc. -/
def State.storeThen {w : Nat} (s : State) (a : Word) (n : Nat) (v : BitVec w) (done : State → State) : Outcome :=
  match s.memWrite a n v with
  | .error code => s.raise code
  | .ok t => .next (done t)

/-- PUSH of `n` bytes: the slot below SP is written before SP changes (40_load_store.md R144). -/
def State.push {w : Nat} (s : State) (n : Nat) (v : BitVec w) : Outcome :=
  let a := s.reg sp - BitVec.ofNat 32 n
  s.storeThen a n v fun t => (t.setReg sp a).advance

/-- POP of `n` bytes: SP moves up, then `dst` takes the value (40_load_store.md R145). -/
def State.pop (s : State) (n : Nat) (dst : List Byte → State → State) : Outcome :=
  s.loadThen (s.reg sp) n fun bs t => (dst bs (t.setReg sp (s.reg sp + BitVec.ofNat 32 n))).advance

end Sys2Proof.Machine
end

