-- ==== Sys2Proof/Machine/Operands.lean ====
section
/-! DEFINITION. Every operand form: effective addresses (40_load_store.md R120), immediates and displacements
(30_encoding.md R102, R103), branch targets (42_branch.md R222), the widths and extensions of loads (20_memory.md R70) and
the barrel-shift amount (44_unary_shift_flag.md R298). -/

namespace Sys2Proof.Machine

/-! ## Effective addresses, all modulo 2^32 (20_memory.md R80) -/

/-- The base of an indexed form: R0 stands for PC and R1 for GBR (10_state.md R25). -/
def State.base (s : State) (b : Reg) : Word :=
  if b = dlr then s.pcNext else if b = dhr then s.gbr else s.reg b

/-- The index scale of MOV.x and FMOV: 1 with a PC base, else the size (30_encoding.md R103, 46_fpu.md R352). -/
def scale (size : Word) (b : Reg) : Word := if b = dlr then 1#32 else size

/-- `(Rb)`: no aliasing (40_load_store.md R120). -/
def State.eaReg (s : State) (b : Reg) : Word := s.reg b

/-- `(Rb, DLR)` of MOV.x and FMOV (40_load_store.md R120). -/
def State.eaIdx (s : State) (size : Word) (b : Reg) : Word := s.base b + s.reg dlr * scale size b

/-- `(SP, disp4u)` (40_load_store.md R120). -/
def State.eaSp (s : State) (size : Word) (d : BitVec 4) : Word := s.reg sp + d.setWidth 32 * size

/-- `(Rb, 4*ddd)` (40_load_store.md R120). -/
def State.eaDsp (s : State) (b : Reg) (ddd : Word) : Word := s.reg b + ddd * 4#32

/-- `LEA.x (Rb, DLR)`: always scaled by the size (40_load_store.md R146, 30_encoding.md R103). -/
def State.eaLea (s : State) (size : Word) (b : Reg) : Word := s.base b + s.reg dlr * size

/-! ## Immediates (30_encoding.md R102) -/

/-- `zext_32` of an immediate. -/
def zext {k : Nat} (v : BitVec k) : Word := v.setWidth 32

/-- `sext_32` of an immediate. -/
def sext {k : Nat} (v : BitVec k) : Word := v.signExtend 32

/-- `oext_32` of an immediate: every higher bit is 1 (00_scope.md R11). -/
def oext {k : Nat} (v : BitVec k) : Word := (BitVec.allOnes 32 <<< k) ||| v.setWidth 32

/-- The target of a displacement branch (42_branch.md R222). -/
def State.branchTarget (s : State) (d : BitVec 8) : Word := s.pcNext + sext d * 2#32

/-! ## Loaded values (20_memory.md R70) -/

/-- The `n` loaded bytes, sign-extended. -/
def loadedS (n : Nat) (bs : List Byte) : Word := (leWord (8 * n) bs).signExtend 32

/-- The `n` loaded bytes, zero-extended. -/
def loadedU (n : Nat) (bs : List Byte) : Word := (leWord (8 * n) bs).setWidth 32

/-! ## Shifts -/

/-- The signed amount in the low 8 bits of DLR is negative: shift right (44_unary_shift_flag.md R298). -/
def shiftsRight (x0 : Word) : Bool := x0.getLsbD 7

/-- The distance, the magnitude of the amount modulo 32 (44_unary_shift_flag.md R298). -/
def shiftDistance (x0 : Word) : Nat :=
  let a := (x0.setWidth 8).toInt
  a.natAbs % 32

/-- SHLD (44_unary_shift_flag.md R299). -/
def barrelLogical (v x0 : Word) : Word :=
  if shiftsRight x0 then v >>> shiftDistance x0 else v <<< shiftDistance x0

/-- SHAD (44_unary_shift_flag.md R300). -/
def barrelArithmetic (v x0 : Word) : Word :=
  if shiftsRight x0 then v.sshiftRight (shiftDistance x0) else v <<< shiftDistance x0

/-- T as a 32-bit value. -/
def bitWord (b : Bool) : Word := (BitVec.ofBool b).setWidth 32

end Sys2Proof.Machine
end

