-- ==== Sys2Proof/Machine/Arith.lean ====
section
/-! DEFINITION. Integer arithmetic, logic, compares and multiplies (41_arith_logic.md). -/

namespace Sys2Proof.Machine

/-- Write one register and go on. -/
def State.result (s : State) (n : Reg) (v : Word) : Outcome := .next ((s.setReg n v).advance)

/-- Write one register and T and go on. -/
def State.resultT (s : State) (n : Reg) (r : Word × Bool) : Outcome := .next (((s.setReg n r.1).setT r.2).advance)

/-- Write T alone and go on (41_arith_logic.md R171). -/
def State.flag (s : State) (b : Bool) : Outcome := .next ((s.setT b).advance)

/-- Write one register from an operation that used DLR (10_state.md R27 item 2). -/
def State.resultDlr (s : State) (n : Reg) (v : Word) : Outcome :=
  .next (((s.setReg n v).dlrClobber (some n)).advance)

/-- Write T from a compare that used DLR (41_arith_logic.md R190). -/
def State.flagDlr (s : State) (b : Bool) : Outcome := .next (((s.setT b).dlrClobber none).advance)

/-- A 64-bit product to DHR and DLR (41_arith_logic.md R200). -/
def State.product (s : State) (p : DWord) : Outcome :=
  .next (((s.setReg dhr (p.extractLsb' 32 32)).setReg dlr (p.extractLsb' 0 32)).advance)

/-! Block 1 -/

/-- ADD Rm, Rn (R172). -/
def execAddReg (n m : Reg) (s : State) : Outcome := s.result n (s.reg n + s.reg m)
/-- SUB Rm, Rn (R173). -/
def execSubReg (n m : Reg) (s : State) : Outcome := s.result n (s.reg n - s.reg m)
/-- ADC Rm, Rn (R174). -/
def execAdcReg (n m : Reg) (s : State) : Outcome := s.resultT n (addCarry (s.reg n) (s.reg m) s.sr.t)
/-- SBB Rm, Rn (R175). -/
def execSbbReg (n m : Reg) (s : State) : Outcome := s.resultT n (subBorrow (s.reg n) (s.reg m) s.sr.t)
/-- TST Rm, Rn (R176). -/
def execTstReg (n m : Reg) (s : State) : Outcome := s.flag (noCommonBit (s.reg m) (s.reg n))
/-- AND Rm, Rn (R177). -/
def execAndReg (n m : Reg) (s : State) : Outcome := s.result n (s.reg n &&& s.reg m)
/-- OR Rm, Rn (R178). -/
def execOrReg (n m : Reg) (s : State) : Outcome := s.result n (s.reg n ||| s.reg m)
/-- XOR Rm, Rn (R179). -/
def execXorReg (n m : Reg) (s : State) : Outcome := s.result n (s.reg n ^^^ s.reg m)
/-- MOV Rm, Rn (R180). -/
def execMovReg (n m : Reg) (s : State) : Outcome := s.result n (s.reg m)
/-- CMPEQ Rm, Rn (R181). -/
def execCmpeqReg (n m : Reg) (s : State) : Outcome := s.flag (s.reg n == s.reg m)
/-- CMPHI Rm, Rn (R182). -/
def execCmphiReg (n m : Reg) (s : State) : Outcome := s.flag (ugt (s.reg n) (s.reg m))
/-- CMPGT Rm, Rn (R183). -/
def execCmpgtReg (n m : Reg) (s : State) : Outcome := s.flag (sgt (s.reg n) (s.reg m))

/-! Compares with an immediate, with zero and with DLR -/

/-- CMPEQ #imm4u, Rn (R184). -/
def execCmpeqImmU (n : Reg) (j : BitVec 4) (s : State) : Outcome := s.flag (s.reg n == zext j)
/-- CMPEQ #imm4n, Rn (R185). -/
def execCmpeqImmN (n : Reg) (j : BitVec 4) (s : State) : Outcome := s.flag (s.reg n == oext j)
/-- CMPGT #imm4u, Rn (R186). -/
def execCmpgtImm (n : Reg) (j : BitVec 4) (s : State) : Outcome := s.flag (sgt (s.reg n) (zext j))
/-- CMPGE #imm4u, Rn (R187). -/
def execCmpgeImm (n : Reg) (j : BitVec 4) (s : State) : Outcome := s.flag (sge (s.reg n) (zext j))
/-- CMPPL Rn (R188). -/
def execCmppl (n : Reg) (s : State) : Outcome := s.flag (sgt (s.reg n) 0#32)
/-- CMPPZ Rn (R189). -/
def execCmppz (n : Reg) (s : State) : Outcome := s.flag (sge (s.reg n) 0#32)
/-- CMPHS DLR, Rn (R190). -/
def execCmphsDlr (n : Reg) (s : State) : Outcome := s.flagDlr (uge (s.reg n) (s.reg dlr))
/-- CMPGE DLR, Rn (R191). -/
def execCmpgeDlr (n : Reg) (s : State) : Outcome := s.flagDlr (sge (s.reg n) (s.reg dlr))

/-! 8-bit immediates -/

/-- ADD #imm8s, Rn (R192). -/
def execAddImm (n : Reg) (i : BitVec 8) (s : State) : Outcome := s.result n (s.reg n + sext i)
/-- MOV #imm8s, Rn (R193). -/
def execMovImm (n : Reg) (i : BitVec 8) (s : State) : Outcome := s.result n (sext i)

/-! Block 5 -/

/-- MULS Rm, Rn (R200). -/
def execMuls (n m : Reg) (s : State) : Outcome := s.product ((s.reg m).signExtend 64 * (s.reg n).signExtend 64)
/-- MULU Rm, Rn (R201). -/
def execMulu (n m : Reg) (s : State) : Outcome := s.product ((s.reg m).setWidth 64 * (s.reg n).setWidth 64)
/-- ADD Rm, DLR, Rn (R202). -/
def execAddDlr (n m : Reg) (s : State) : Outcome := s.resultDlr n (s.reg m + s.reg dlr)
/-- SUB Rm, DLR, Rn (R203). -/
def execSubDlr (n m : Reg) (s : State) : Outcome := s.resultDlr n (s.reg m - s.reg dlr)
/-- AND Rm, DLR, Rn (R204). -/
def execAndDlr (n m : Reg) (s : State) : Outcome := s.resultDlr n (s.reg m &&& s.reg dlr)
/-- OR Rm, DLR, Rn (R205). -/
def execOrDlr (n m : Reg) (s : State) : Outcome := s.resultDlr n (s.reg m ||| s.reg dlr)
/-- XOR Rm, DLR, Rn (R206). -/
def execXorDlr (n m : Reg) (s : State) : Outcome := s.resultDlr n (s.reg m ^^^ s.reg dlr)

end Sys2Proof.Machine
end

