-- ==== Sys2Proof/Machine/Branch.lean ====
section
/-! DEFINITION. Control transfer (42_branch.md). Every branch ends with the branch clobber, taken or not (R220). -/

namespace Sys2Proof.Machine

/-- Go on at `target` with R0, R1 and T undefined (42_branch.md R220). -/
def State.branchTo (s : State) (target : Word) : Outcome := .next ((s.setPc target).branchClobber)

/-- Branch to `target` if `taken`, else go on (42_branch.md R225). -/
def State.branchIf (s : State) (taken : Bool) (target : Word) : Outcome :=
  s.branchTo (if taken then target else s.pcNext)

/-- Save the following instruction's address in LR and go to `target` (42_branch.md R224). -/
def State.callTo (s : State) (target : Word) : Outcome := (s.setLr s.pcNext).branchTo target

/-! Displacement forms -/

/-- BRA (PC, disp8s) (R223). -/
def execBraDisp (d : BitVec 8) (s : State) : Outcome := s.branchTo (s.branchTarget d)
/-- BSR (PC, disp8s) (R224). -/
def execBsrDisp (d : BitVec 8) (s : State) : Outcome := s.callTo (s.branchTarget d)
/-- BT (PC, disp8s) (R225). -/
def execBtDisp (d : BitVec 8) (s : State) : Outcome := s.branchIf s.sr.t (s.branchTarget d)
/-- BF (PC, disp8s) (R226). -/
def execBfDisp (d : BitVec 8) (s : State) : Outcome := s.branchIf (!s.sr.t) (s.branchTarget d)

/-! Register forms: the target is absolute (R222) -/

/-- BRA Rn (R227). -/
def execBraReg (n : Reg) (s : State) : Outcome := s.branchTo (s.reg n)
/-- BSR Rn (R228). -/
def execBsrReg (n : Reg) (s : State) : Outcome := s.callTo (s.reg n)
/-- BT Rn (R229). -/
def execBtReg (n : Reg) (s : State) : Outcome := s.branchIf s.sr.t (s.reg n)
/-- BF Rn (R230). -/
def execBfReg (n : Reg) (s : State) : Outcome := s.branchIf (!s.sr.t) (s.reg n)

/-! Return and no-operation -/

/-- RTS (R231). -/
def execRts (s : State) : Outcome := s.branchTo s.lr
/-- NOP (R232). -/
def execNop (s : State) : Outcome := .next s.advance

end Sys2Proof.Machine
end

