-- ==== Sys2Proof/Machine/Params.lean ====
section
/-! DEFINITION. The parameters of 00_scope.md R7 that are functions of the whole state, as constants without a body. -/

namespace Sys2Proof

open Machine

/-- `sleep_invalid` where it is neither of the two readings R320 offers (45_system.md R320). -/
opaque Config.sleepInvalid : State → Bool

/-- The function FLDCD's meaning uses where one is supplied (46_fpu.md R370). -/
opaque Config.fldcd : State → DWord

/-- `fstcd : 64 bits x state -> state`, where one is supplied (46_fpu.md R374). -/
opaque Config.fstcd : DWord → State → State

end Sys2Proof
end

