-- ==== Sys2Proof/Machine/Fpu.lean ====
section
/-! DEFINITION. The optional FPU block (46_fpu.md). The numeric functions are uninterpreted (R351). -/

namespace Sys2Proof.Machine

/-- An FPU instruction: without the FPU its word is reserved (46_fpu.md R350). -/
def State.withFpu (s : State) (i : Instr) (run : Outcome) : Outcome := if s.cfg.hasFpu then run else s.absent i

/-- PUSH FRn and POP FRn are a further option (46_fpu.md R350). -/
def State.withFpuStack (s : State) (i : Instr) (run : Outcome) : Outcome :=
  if s.cfg.hasFpu && s.cfg.hasFpuPushPop then run else s.absent i

/-- Write one FPU register and go on. -/
def State.fresult (s : State) (n : FReg) (v : DWord) : Outcome := .next ((s.setFreg n v).advance)

/-- Write one FPU register from DLR, which has been used (46_fpu.md R354). -/
def State.fresultDlr (s : State) (n : FReg) (v : DWord) : Outcome :=
  .next (((s.setFreg n v).dlrClobber none).advance)

/-- Write DLR from an FPU register; the value stands (46_fpu.md R354). -/
def State.toDlr (s : State) (v : Word) : Outcome := .next ((s.setReg dlr v).advance)

/-- The memory of a state `u` a supplied `fstcd` gives: its listed bytes over what an unlisted byte of `s` reads as, which
is an input no instruction changes (log entries 8 and 18). -/
def State.fstcdMem (s u : State) : Memory := { u.mem with fill := s.mem.fill }

/-- The bytes of memory that a supplied `fstcd` has stored: those it changed and those it lists as stored
(46_fpu.md R374; log entry 18). -/
def State.fstcdCells (s u : State) : List Host.Cell :=
  ((s.mem.cells.map (·.1) ++ u.mem.cells.map (·.1) ++ u.stored).filter fun a =>
    decide (a < 4294967296) && !s.isDevice a &&
      ((s.fstcdMem u).read a != s.mem.read a || u.stored.contains a)).map fun a => (a, (s.fstcdMem u).read a)

/-- The state a supplied `fstcd` gives, taken over: every register, PC and `sleeping`, memory byte for byte (46_fpu.md R374;
log entry 18). Kept is what other rules say FSTCD does not write: every bit of SR ("Flags: none", R374; 10_state.md R34;
46_fpu.md R354), GBR (10_state.md R44), and what no instruction writes, the parameters and the environment's requests
(60_exceptions.md R420). -/
def State.takeFstcd (s u : State) : State :=
  { s.storeCells (s.fstcdCells u) with
    regs := u.regs, fregs := u.fregs, pc := u.pc, lr := u.lr, vbr := u.vbr, spc := u.spc, ssp := u.ssp, tbr := u.tbr,
    exsr := u.exsr, ssr := u.ssr, sleeping := u.sleeping, draws := max s.draws u.draws, devLog := u.devLog }


/-! FMOV memory forms -/

/-- FMOV.S FRm, (Rn) (R355). -/
def execFmovsStore (n : Reg) (m : FReg) (s : State) : Outcome :=
  s.withFpu (.fmovsStore n m) (s.storeThen (s.eaReg n) 4 (Config.fmovSOut (s.freg m)) State.advance)
/-- FMOV.D FRm, (Rn) (R356). -/
def execFmovdStore (n : Reg) (m : FReg) (s : State) : Outcome :=
  s.withFpu (.fmovdStore n m) (s.storeThen (s.eaReg n) 8 (s.freg m) State.advance)
/-- FMOV.S FRm, (Rn, DLR) (R357). -/
def execFmovsStoreDlr (n : Reg) (m : FReg) (s : State) : Outcome :=
  s.withFpu (.fmovsStoreDlr n m) <|
    s.storeThen (s.eaIdx 4#32 n) 4 (Config.fmovSOut (s.freg m)) fun t => (t.dlrClobber none).advance
/-- FMOV.D FRm, (Rn, DLR) (R358). -/
def execFmovdStoreDlr (n : Reg) (m : FReg) (s : State) : Outcome :=
  s.withFpu (.fmovdStoreDlr n m) <|
    s.storeThen (s.eaIdx 8#32 n) 8 (s.freg m) fun t => (t.dlrClobber none).advance
/-- FMOV.S (Rm), FRn (R359). -/
def execFmovsLoad (n : FReg) (m : Reg) (s : State) : Outcome :=
  s.withFpu (.fmovsLoad n m) <|
    s.loadThen (s.eaReg m) 4 fun bs t => (t.setFreg n (Config.fmovSIn (leWord 32 bs))).advance
/-- FMOV.D (Rm), FRn (R360). -/
def execFmovdLoad (n : FReg) (m : Reg) (s : State) : Outcome :=
  s.withFpu (.fmovdLoad n m) <|
    s.loadThen (s.eaReg m) 8 fun bs t => (t.setFreg n (leWord 64 bs)).advance
/-- FMOV.S (Rm, DLR), FRn (R361). -/
def execFmovsLoadDlr (n : FReg) (m : Reg) (s : State) : Outcome :=
  s.withFpu (.fmovsLoadDlr n m) <|
    s.loadThen (s.eaIdx 4#32 m) 4 fun bs t =>
      ((t.setFreg n (Config.fmovSIn (leWord 32 bs))).dlrClobber none).advance
/-- FMOV.D (Rm, DLR), FRn (R362). -/
def execFmovdLoadDlr (n : FReg) (m : Reg) (s : State) : Outcome :=
  s.withFpu (.fmovdLoadDlr n m) <|
    s.loadThen (s.eaIdx 8#32 m) 8 fun bs t => ((t.setFreg n (leWord 64 bs)).dlrClobber none).advance

/-! Arithmetic, compares, register move -/

/-- FADD FRm, FRn (R363). -/
def execFadd (n m : FReg) (s : State) : Outcome :=
  s.withFpu (.fadd n m) (s.fresult n (Config.fadd (s.freg n) (s.freg m)))
/-- FSUB FRm, FRn (R364). -/
def execFsub (n m : FReg) (s : State) : Outcome :=
  s.withFpu (.fsub n m) (s.fresult n (Config.fsub (s.freg n) (s.freg m)))
/-- FMUL FRm, FRn (R365). -/
def execFmul (n m : FReg) (s : State) : Outcome :=
  s.withFpu (.fmul n m) (s.fresult n (Config.fmul (s.freg n) (s.freg m)))
/-- FCMPEQ FRm, FRn (R366). -/
def execFcmpeq (n m : FReg) (s : State) : Outcome :=
  s.withFpu (.fcmpeq n m) (.next ((s.setT (Config.fcmpeq (s.freg n) (s.freg m))).advance))
/-- FCMPGT FRm, FRn (R367). -/
def execFcmpgt (n m : FReg) (s : State) : Outcome :=
  s.withFpu (.fcmpgt n m) (.next ((s.setT (Config.fcmpgt (s.freg n) (s.freg m))).advance))
/-- FMOV FRm, FRn (R368). -/
def execFmovReg (n m : FReg) (s : State) : Outcome := s.withFpu (.fmovReg n m) (s.fresult n (s.freg m))

/-! Conversions through DLR, and one-register operations -/

/-- FLDCF DLR, FRn (R369). -/
def execFldcf (n : FReg) (s : State) : Outcome := s.withFpu (.fldcf n) (s.fresultDlr n (Config.cvtF32In (s.reg dlr)))
/-- FLDCD DLR, FRn (R370). The function is given what FLDCD may read (`State.fpuView`). -/
def execFldcd (n : FReg) (s : State) : Outcome :=
  s.withFpu (.fldcd n) <|
    if s.cfg.hasFldcd then s.fresultDlr n (Config.fldcd s.fpuView) else .refused .fldcdNotSupplied
/-- FLDCI DLR, FRn (R371). -/
def execFldci (n : FReg) (s : State) : Outcome := s.withFpu (.fldci n) (s.fresultDlr n (Config.cvtI32In (s.reg dlr)))
/-- FLDCH DLR, FRn (R372). -/
def execFldch (n : FReg) (s : State) : Outcome :=
  s.withFpu (.fldch n) (s.fresultDlr n (Config.cvtF16In ((s.reg dlr).extractLsb' 0 16)))
/-- FSTCF FRn, DLR (R373). -/
def execFstcf (n : FReg) (s : State) : Outcome := s.withFpu (.fstcf n) (s.toDlr (Config.cvtF32Out (s.freg n)))
/-- FSTCD FRn, DLR (R374). The function is given the state with PC at the following instruction, which is where the
machine goes on unless the function writes PC (00_scope.md R11), and of that state what FSTCD may read (`State.fpuView`). -/
def execFstcd (n : FReg) (s : State) : Outcome :=
  s.withFpu (.fstcd n) <|
    if s.cfg.hasFstcd then .next (s.takeFstcd (Config.fstcd (s.freg n) s.fpuView.advance))
    else .refused .fstcdNotSupplied
/-- FSTCI FRn, DLR (R375). -/
def execFstci (n : FReg) (s : State) : Outcome := s.withFpu (.fstci n) (s.toDlr (Config.cvtI32Out (s.freg n)))
/-- FSTCH FRn, DLR (R376). -/
def execFstch (n : FReg) (s : State) : Outcome :=
  s.withFpu (.fstch n) <|
    State.toDlr { s with draws := s.draws + 1 } (Config.freeHalf s.draws ++ Config.cvtF16Out (s.freg n))
/-- FNEG FRn (R377). -/
def execFneg (n : FReg) (s : State) : Outcome := s.withFpu (.fneg n) (s.fresult n (Config.fneg (s.freg n)))
/-- FABS FRn (R378). -/
def execFabs (n : FReg) (s : State) : Outcome := s.withFpu (.fabs n) (s.fresult n (Config.fabs (s.freg n)))

/-! PUSH FRn and POP FRn -/

/-- PUSH FRn (R379). -/
def execPushFpu (n : FReg) (s : State) : Outcome := s.withFpuStack (.pushFpu n) (s.push 8 (s.freg n))
/-- POP FRn (R380). -/
def execPopFpu (n : FReg) (s : State) : Outcome :=
  s.withFpuStack (.popFpu n) (s.pop 8 fun bs t => t.setFreg n (leWord 64 bs))

end Sys2Proof.Machine
end

