-- ==== Sys2Proof/Machine/Immediate.lean ====
section
/-! DEFINITION. Immediate loads into DLR (43_dlr_immediate.md). -/

namespace Sys2Proof.Machine

/-- Write DLR and go on (43_dlr_immediate.md R240). -/
def State.loadDlr (s : State) (v : Word) : Outcome := .next ((s.setReg dlr v).advance)

/-- LDIZ #imm8u, DLR (R241). -/
def execLdiz8 (j : BitVec 8) (s : State) : Outcome := s.loadDlr (zext j)
/-- LDIN #imm8u, DLR (R242). -/
def execLdin8 (j : BitVec 8) (s : State) : Outcome := s.loadDlr (oext j)
/-- LDISH #imm8u, DLR (R243). -/
def execLdish (j : BitVec 8) (s : State) : Outcome := s.loadDlr ((s.reg dlr <<< 8) ||| zext j)
/-- LDISH16 #0x0000, DLR (R244). -/
def execLdish16Zero (s : State) : Outcome := s.loadDlr (s.reg dlr <<< 16)
/-- LDISH16 #0xFFFF, DLR (R245). -/
def execLdish16Ones (s : State) : Outcome := s.loadDlr ((s.reg dlr <<< 16) ||| 0x0000FFFF#32)
/-- LDIZ #imm12u, DLR (R246). -/
def execLdiz12 (j : BitVec 12) (s : State) : Outcome := s.loadDlr (zext j)
/-- LDIN #imm12u, DLR (R247). -/
def execLdin12 (j : BitVec 12) (s : State) : Outcome := s.loadDlr (oext j)

end Sys2Proof.Machine
end

