-- ==== Sys2Proof/Machine/LoadStore.lean ====
section
/-! DEFINITION. Loads, stores, PUSH Rn, POP Rn and LEA (40_load_store.md). -/

namespace Sys2Proof.Machine

/-- A MOV.x or MOVU.x load: read `k` bytes at `a`, write the destination, clobber (40_load_store.md R120). -/
def State.movLoad (s : State) (a : Word) (k : Nat) (ext : List Byte → Word) (n : Reg) : Outcome :=
  s.loadThen a k fun bs t => ((t.setReg n (ext bs)).movClobber (some n)).advance

/-- A MOV.x store of the low `k` bytes of `v` at `a` (40_load_store.md R120). -/
def State.movStore (s : State) (a : Word) (k : Nat) (v : Word) : Outcome :=
  s.storeThen a k v fun t => (t.movClobber none).advance

/-- LEA.x: the address goes to the destination, and DLR has been used (40_load_store.md R146). -/
def State.lea (s : State) (size : Word) (n m : Reg) : Outcome :=
  .next (((s.setReg n (s.eaLea size m)).dlrClobber (some n)).advance)

/-! Block 0, (Rn) and (Rn, DLR) -/

/-- MOV.B Rm, (Rn) (R121). -/
def execMovbStore (n m : Reg) (s : State) : Outcome := s.movStore (s.eaReg n) 1 (s.reg m)
/-- MOV.W Rm, (Rn) (R122). -/
def execMovwStore (n m : Reg) (s : State) : Outcome := s.movStore (s.eaReg n) 2 (s.reg m)
/-- MOV.L Rm, (Rn) (R123). -/
def execMovlStore (n m : Reg) (s : State) : Outcome := s.movStore (s.eaReg n) 4 (s.reg m)
/-- MOV.B Rm, (Rn, DLR) (R125). -/
def execMovbStoreDlr (n m : Reg) (s : State) : Outcome := s.movStore (s.eaIdx 1#32 n) 1 (s.reg m)
/-- MOV.W Rm, (Rn, DLR) (R126). -/
def execMovwStoreDlr (n m : Reg) (s : State) : Outcome := s.movStore (s.eaIdx 2#32 n) 2 (s.reg m)
/-- MOV.L Rm, (Rn, DLR) (R127). -/
def execMovlStoreDlr (n m : Reg) (s : State) : Outcome := s.movStore (s.eaIdx 4#32 n) 4 (s.reg m)
/-- MOVU.B (Rm), Rn (R124). -/
def execMovubLoad (n m : Reg) (s : State) : Outcome := s.movLoad (s.eaReg m) 1 (loadedU 1) n
/-- MOV.B (Rm), Rn (R129). -/
def execMovbLoad (n m : Reg) (s : State) : Outcome := s.movLoad (s.eaReg m) 1 (loadedS 1) n
/-- MOV.W (Rm), Rn (R130). -/
def execMovwLoad (n m : Reg) (s : State) : Outcome := s.movLoad (s.eaReg m) 2 (loadedS 2) n
/-- MOV.L (Rm), Rn (R131). -/
def execMovlLoad (n m : Reg) (s : State) : Outcome := s.movLoad (s.eaReg m) 4 (leWord 32) n
/-- MOVU.W (Rm), Rn (R132). -/
def execMovuwLoad (n m : Reg) (s : State) : Outcome := s.movLoad (s.eaReg m) 2 (loadedU 2) n
/-- MOVU.B (Rm, DLR), Rn (R128). -/
def execMovubLoadDlr (n m : Reg) (s : State) : Outcome := s.movLoad (s.eaIdx 1#32 m) 1 (loadedU 1) n
/-- MOV.B (Rm, DLR), Rn (R133). -/
def execMovbLoadDlr (n m : Reg) (s : State) : Outcome := s.movLoad (s.eaIdx 1#32 m) 1 (loadedS 1) n
/-- MOV.W (Rm, DLR), Rn (R134). -/
def execMovwLoadDlr (n m : Reg) (s : State) : Outcome := s.movLoad (s.eaIdx 2#32 m) 2 (loadedS 2) n
/-- MOV.L (Rm, DLR), Rn (R135). -/
def execMovlLoadDlr (n m : Reg) (s : State) : Outcome := s.movLoad (s.eaIdx 4#32 m) 4 (leWord 32) n
/-- MOVU.W (Rm, DLR), Rn (R136). -/
def execMovuwLoadDlr (n m : Reg) (s : State) : Outcome := s.movLoad (s.eaIdx 2#32 m) 2 (loadedU 2) n

/-! Block 2, (SP, disp4u) -/

/-- MOVU.W (SP, disp4u), Rn (R137). -/
def execMovuwLoadSp (n : Reg) (d : BitVec 4) (s : State) : Outcome := s.movLoad (s.eaSp 2#32 d) 2 (loadedU 2) n
/-- MOV.L Rn, (SP, disp4u) (R138). -/
def execMovlStoreSp (n : Reg) (d : BitVec 4) (s : State) : Outcome := s.movStore (s.eaSp 4#32 d) 4 (s.reg n)
/-- MOV.W Rn, (SP, disp4u) (R139). -/
def execMovwStoreSp (n : Reg) (d : BitVec 4) (s : State) : Outcome := s.movStore (s.eaSp 2#32 d) 2 (s.reg n)
/-- MOV.L (SP, disp4u), Rn (R140). -/
def execMovlLoadSp (n : Reg) (d : BitVec 4) (s : State) : Outcome := s.movLoad (s.eaSp 4#32 d) 4 (leWord 32) n
/-- MOV.W (SP, disp4u), Rn (R141). -/
def execMovwLoadSp (n : Reg) (d : BitVec 4) (s : State) : Outcome := s.movLoad (s.eaSp 2#32 d) 2 (loadedS 2) n

/-! Block 8, (Rn, 4*ddd) -/

/-- MOV.L Rm, (Rn, 4) (R142). -/
def execMovlStoreDisp4 (n m : Reg) (s : State) : Outcome := s.movStore (s.eaDsp n 1#32) 4 (s.reg m)
/-- MOV.L Rm, (Rn, 8) (R142). -/
def execMovlStoreDisp8 (n m : Reg) (s : State) : Outcome := s.movStore (s.eaDsp n 2#32) 4 (s.reg m)
/-- MOV.L Rm, (Rn, 12) (R142). -/
def execMovlStoreDisp12 (n m : Reg) (s : State) : Outcome := s.movStore (s.eaDsp n 3#32) 4 (s.reg m)
/-- MOV.L Rm, (Rn, 16) (R142). -/
def execMovlStoreDisp16 (n m : Reg) (s : State) : Outcome := s.movStore (s.eaDsp n 4#32) 4 (s.reg m)
/-- MOV.L Rm, (Rn, 20) (R142). -/
def execMovlStoreDisp20 (n m : Reg) (s : State) : Outcome := s.movStore (s.eaDsp n 5#32) 4 (s.reg m)
/-- MOV.L Rm, (Rn, 24) (R142). -/
def execMovlStoreDisp24 (n m : Reg) (s : State) : Outcome := s.movStore (s.eaDsp n 6#32) 4 (s.reg m)
/-- MOV.L Rm, (Rn, 28) (R142). -/
def execMovlStoreDisp28 (n m : Reg) (s : State) : Outcome := s.movStore (s.eaDsp n 7#32) 4 (s.reg m)
/-- MOV.L (Rm, 4), Rn (R143). -/
def execMovlLoadDisp4 (n m : Reg) (s : State) : Outcome := s.movLoad (s.eaDsp m 1#32) 4 (leWord 32) n
/-- MOV.L (Rm, 8), Rn (R143). -/
def execMovlLoadDisp8 (n m : Reg) (s : State) : Outcome := s.movLoad (s.eaDsp m 2#32) 4 (leWord 32) n
/-- MOV.L (Rm, 12), Rn (R143). -/
def execMovlLoadDisp12 (n m : Reg) (s : State) : Outcome := s.movLoad (s.eaDsp m 3#32) 4 (leWord 32) n
/-- MOV.L (Rm, 16), Rn (R143). -/
def execMovlLoadDisp16 (n m : Reg) (s : State) : Outcome := s.movLoad (s.eaDsp m 4#32) 4 (leWord 32) n
/-- MOV.L (Rm, 20), Rn (R143). -/
def execMovlLoadDisp20 (n m : Reg) (s : State) : Outcome := s.movLoad (s.eaDsp m 5#32) 4 (leWord 32) n
/-- MOV.L (Rm, 24), Rn (R143). -/
def execMovlLoadDisp24 (n m : Reg) (s : State) : Outcome := s.movLoad (s.eaDsp m 6#32) 4 (leWord 32) n
/-- MOV.L (Rm, 28), Rn (R143). -/
def execMovlLoadDisp28 (n m : Reg) (s : State) : Outcome := s.movLoad (s.eaDsp m 7#32) 4 (leWord 32) n

/-! PUSH, POP, LEA -/

/-- PUSH Rn (R144); PUSH R15 is reserved (93_implementation_defined.md U8). -/
def execPushReg (n : Reg) (s : State) : Outcome :=
  if n = sp then s.reserved (.pushReg n) else s.push 4 (s.reg n)

/-- POP Rn (R145); POP R15 is reserved (93_implementation_defined.md U8). -/
def execPopReg (n : Reg) (s : State) : Outcome :=
  if n = sp then s.reserved (.popReg n) else s.pop 4 fun bs t => t.setReg n (leWord 32 bs)

/-- LEA.B (Rm, DLR), Rn (R146). -/
def execLeaB (n m : Reg) (s : State) : Outcome := s.lea 1#32 n m
/-- LEA.W (Rm, DLR), Rn (R147). -/
def execLeaW (n m : Reg) (s : State) : Outcome := s.lea 2#32 n m
/-- LEA.L (Rm, DLR), Rn (R148). -/
def execLeaL (n m : Reg) (s : State) : Outcome := s.lea 4#32 n m
/-- LEA.Q (Rm, DLR), Rn (R149). -/
def execLeaQ (n m : Reg) (s : State) : Outcome := s.lea 8#32 n m

end Sys2Proof.Machine
end

