-- ==== Sys2Proof/WellFormed.lean ====
section
/-! DEFINITION. Which instructions have a meaning in the spec at all, and which need an optional part.

`Instr.wellFormed` says that no operand value is `reserved()` (30_encoding.md R104, R105); `Instr.present` that the
implementation has the part the instruction belongs to (46_fpu.md R350). -/

namespace Sys2Proof

/-- The control registers that have a name: C0..C7, C11 and C12 (10_state.md R31, R48). -/
def CReg.named (n : CReg) : Bool := decide (n.toNat < 8) || n == 11#4 || n == 12#4

/-- The control registers that can be written by a move or a pop: the named ones but PC (45_system.md R324). -/
def CReg.writable (n : CReg) : Bool := CReg.named n && n != 0#4

/-- No operand value of the instruction is reserved: PUSH and POP of R15 (40_load_store.md R144, R145), unnamed control
registers and writes of C0 (45_system.md R324 to R330), the shadow registers (45_system.md R327, R328). -/
def Instr.wellFormed : Instr → Bool
  | .pushReg n => n != sp
  | .popReg n => n != sp
  | .pushCtl n => CReg.named n
  | .popCtl n => CReg.writable n
  | .movToCtl n _ => CReg.writable n
  | .movFromCtl _ m => CReg.named m
  | .movToShadow _ _ | .movFromShadow _ _ => false
  | .movbStore _ _ | .movwStore _ _ | .movlStore _ _ | .movubLoad _ _ | .movbStoreDlr _ _ | .movwStoreDlr _ _
  | .movlStoreDlr _ _ | .movubLoadDlr _ _ | .movbLoad _ _ | .movwLoad _ _ | .movlLoad _ _ | .movuwLoad _ _
  | .movbLoadDlr _ _ | .movwLoadDlr _ _ | .movlLoadDlr _ _ | .movuwLoadDlr _ _ | .addReg _ _ | .subReg _ _
  | .adcReg _ _ | .sbbReg _ _ | .tstReg _ _ | .andReg _ _ | .orReg _ _ | .xorReg _ _ | .movReg _ _
  | .cmpeqReg _ _ | .cmphiReg _ _ | .cmpgtReg _ _ | .braDisp _ | .bsrDisp _ | .btDisp _ | .bfDisp _ | .ldiz8 _
  | .ldin8 _ | .ldish _ | .movuwLoadSp _ _ | .movlStoreSp _ _ | .movwStoreSp _ _ | .movlLoadSp _ _
  | .movwLoadSp _ _ | .cmpeqImmU _ _ | .cmpeqImmN _ _ | .cmpgtImm _ _ | .cmpgeImm _ _ | .nop | .rts | .sleep
  | .breakpoint | .clrt | .sett | .clrs | .sets | .nott | .nots | .ldish16Zero | .ldish16Ones | .rte | .cmppl _
  | .cmppz _ | .braReg _ | .bsrReg _ | .btReg _ | .bfReg _ | .extuB _ | .extuW _ | .extsB _ | .extsW _
  | .notReg _ | .negReg _ | .negcReg _ | .movnt _ | .rotl _ | .rotr _ | .rotcl _ | .rotcr _ | .shll _ | .shlr _
  | .shar _ | .shll1 _ | .shll2 _ | .shll4 _ | .shll8 _ | .shlr1 _ | .shlr2 _ | .shlr4 _ | .shlr8 _ | .shar1 _
  | .shar2 _ | .shar4 _ | .shar8 _ | .shll16 _ | .shlr16 _ | .shar16 _ | .sharsx _ | .trap _ | .shld _
  | .shad _ | .cmphsDlr _ | .cmpgeDlr _ | .movt _ | .swapB _ | .swapW _ | .swapLb _ | .pushFpu _ | .popFpu _
  | .leaB _ _ | .leaW _ _ | .leaL _ _ | .leaQ _ _ | .muls _ _ | .mulu _ _ | .addDlr _ _ | .subDlr _ _
  | .andDlr _ _ | .orDlr _ _ | .xorDlr _ _ | .movlStoreDisp4 _ _ | .movlStoreDisp8 _ _ | .movlStoreDisp12 _ _
  | .movlStoreDisp16 _ _ | .movlStoreDisp20 _ _ | .movlStoreDisp24 _ _ | .movlStoreDisp28 _ _
  | .movlLoadDisp4 _ _ | .movlLoadDisp8 _ _ | .movlLoadDisp12 _ _ | .movlLoadDisp16 _ _ | .movlLoadDisp20 _ _
  | .movlLoadDisp24 _ _ | .movlLoadDisp28 _ _ | .fmovsStore _ _ | .fmovdStore _ _ | .fmovsStoreDlr _ _
  | .fmovdStoreDlr _ _ | .fmovsLoad _ _ | .fmovdLoad _ _ | .fmovsLoadDlr _ _ | .fmovdLoadDlr _ _ | .fadd _ _
  | .fsub _ _ | .fmul _ _ | .fcmpeq _ _ | .fcmpgt _ _ | .fmovReg _ _ | .fldcf _ | .fldcd _ | .fldci _
  | .fldch _ | .fstcf _ | .fstcd _ | .fstci _ | .fstch _ | .fneg _ | .fabs _ | .ldiz12 _ | .ldin12 _
  | .addImm _ _ | .movImm _ _ => true

/-- The implementation has the optional part the instruction belongs to: the FPU for block 9, and for PUSH FRn and
POP FRn the further option (46_fpu.md R350). -/
def Instr.present (cfg : Config) : Instr → Bool
  | .pushFpu _ | .popFpu _ => cfg.hasFpu && cfg.hasFpuPushPop
  | .fmovsStore _ _ | .fmovdStore _ _ | .fmovsStoreDlr _ _ | .fmovdStoreDlr _ _ | .fmovsLoad _ _
  | .fmovdLoad _ _ | .fmovsLoadDlr _ _ | .fmovdLoadDlr _ _ | .fadd _ _ | .fsub _ _ | .fmul _ _ | .fcmpeq _ _
  | .fcmpgt _ _ | .fmovReg _ _ | .fldcf _ | .fldcd _ | .fldci _ | .fldch _ | .fstcf _ | .fstcd _ | .fstci _
  | .fstch _ | .fneg _ | .fabs _ => cfg.hasFpu
  | .movbStore _ _ | .movwStore _ _ | .movlStore _ _ | .movubLoad _ _ | .movbStoreDlr _ _ | .movwStoreDlr _ _
  | .movlStoreDlr _ _ | .movubLoadDlr _ _ | .movbLoad _ _ | .movwLoad _ _ | .movlLoad _ _ | .movuwLoad _ _
  | .movbLoadDlr _ _ | .movwLoadDlr _ _ | .movlLoadDlr _ _ | .movuwLoadDlr _ _ | .addReg _ _ | .subReg _ _
  | .adcReg _ _ | .sbbReg _ _ | .tstReg _ _ | .andReg _ _ | .orReg _ _ | .xorReg _ _ | .movReg _ _
  | .cmpeqReg _ _ | .cmphiReg _ _ | .cmpgtReg _ _ | .braDisp _ | .bsrDisp _ | .btDisp _ | .bfDisp _ | .ldiz8 _
  | .ldin8 _ | .ldish _ | .movuwLoadSp _ _ | .movlStoreSp _ _ | .movwStoreSp _ _ | .movlLoadSp _ _
  | .movwLoadSp _ _ | .cmpeqImmU _ _ | .cmpeqImmN _ _ | .cmpgtImm _ _ | .cmpgeImm _ _ | .nop | .rts | .sleep
  | .breakpoint | .clrt | .sett | .clrs | .sets | .nott | .nots | .ldish16Zero | .ldish16Ones | .rte
  | .pushReg _ | .pushCtl _ | .popReg _ | .popCtl _ | .cmppl _ | .cmppz _ | .braReg _ | .bsrReg _ | .btReg _
  | .bfReg _ | .extuB _ | .extuW _ | .extsB _ | .extsW _ | .notReg _ | .negReg _ | .negcReg _ | .movnt _
  | .rotl _ | .rotr _ | .rotcl _ | .rotcr _ | .shll _ | .shlr _ | .shar _ | .shll1 _ | .shll2 _ | .shll4 _
  | .shll8 _ | .shlr1 _ | .shlr2 _ | .shlr4 _ | .shlr8 _ | .shar1 _ | .shar2 _ | .shar4 _ | .shar8 _
  | .shll16 _ | .shlr16 _ | .shar16 _ | .sharsx _ | .trap _ | .shld _ | .shad _ | .cmphsDlr _ | .cmpgeDlr _
  | .movt _ | .swapB _ | .swapW _ | .swapLb _ | .movToCtl _ _ | .movFromCtl _ _ | .movToShadow _ _
  | .movFromShadow _ _ | .leaB _ _ | .leaW _ _ | .leaL _ _ | .leaQ _ _ | .muls _ _ | .mulu _ _ | .addDlr _ _
  | .subDlr _ _ | .andDlr _ _ | .orDlr _ _ | .xorDlr _ _ | .movlStoreDisp4 _ _ | .movlStoreDisp8 _ _
  | .movlStoreDisp12 _ _ | .movlStoreDisp16 _ _ | .movlStoreDisp20 _ _ | .movlStoreDisp24 _ _
  | .movlStoreDisp28 _ _ | .movlLoadDisp4 _ _ | .movlLoadDisp8 _ _ | .movlLoadDisp12 _ _ | .movlLoadDisp16 _ _
  | .movlLoadDisp20 _ _ | .movlLoadDisp24 _ _ | .movlLoadDisp28 _ _ | .ldiz12 _ | .ldin12 _ | .addImm _ _
  | .movImm _ _ => true

end Sys2Proof
end

