-- ==== Sys2Proof/Machine/System.lean ====
section
/-! DEFINITION. System instructions and control-register access (45_system.md). -/

namespace Sys2Proof.Machine

/-- `sleep_invalid(state)` (45_system.md R320): the parameter's reading. An unstated one is given only what SLEEP may read
(`State.sleepView`). -/
def State.sleepInvalid (s : State) : Bool :=
  match s.cfg.sleepRule with
  | .never => false
  | .whenMasked => s.sr.bl || s.sr.ipl == 0#2
  | .unstated => Config.sleepInvalid s.sleepView


/-! SLEEP, BREAK, TRAP, RTE -/

/-- SLEEP (R320). -/
def execSleep (s : State) : Outcome :=
  if s.sleepInvalid then s.raise 0x8005#16 else .next ((s.setSleeping true).advance)
/-- BREAK (R321). -/
def execBreakpoint (s : State) : Outcome := s.raise 0x8004#16
/-- TRAP #imm4u (R322). -/
def execTrap (j : BitVec 4) (s : State) : Outcome := s.softInterrupt (0xC080#16 ||| j.setWidth 16)
/-- RTE (R323). -/
def execRte (s : State) : Outcome := .next s.trapReturn

/-! Control-register moves -/

/-- MOV Rm, Cn (R325). -/
def execMovToCtl (n : CReg) (m : Reg) (s : State) : Outcome :=
  match s.setCreg n (s.reg m) with
  | some t => .next t.advance
  | none => s.reserved (.movToCtl n m)
/-- MOV Cm, Rn (R326). -/
def execMovFromCtl (n : Reg) (m : CReg) (s : State) : Outcome :=
  match s.creg m with
  | some v => .next ((s.setReg n v).advance)
  | none => s.reserved (.movFromCtl n m)
/-- MOV Rm, Sn (R327). Reserved: HAS_SHADOW is false (10_state.md R50). -/
def execMovToShadow (n : BitVec 4) (m : Reg) (s : State) : Outcome := s.reserved (.movToShadow n m)
/-- MOV Sm, Rn (R328). Reserved: HAS_SHADOW is false (10_state.md R50). -/
def execMovFromShadow (n : Reg) (m : BitVec 4) (s : State) : Outcome := s.reserved (.movFromShadow n m)

/-! PUSH Cn and POP Cn -/

/-- PUSH Cn (R329). -/
def execPushCtl (n : CReg) (s : State) : Outcome :=
  match s.creg n with
  | some v => s.push 4 v
  | none => s.reserved (.pushCtl n)
/-- POP Cn (R330). -/
def execPopCtl (n : CReg) (s : State) : Outcome :=
  if CReg.writable n then s.pop 4 fun bs t => (t.setCreg n (leWord 32 bs)).getD t
  else s.reserved (.popCtl n)

end Sys2Proof.Machine
end

