-- ==== Sys2Proof/Machine/Unary.lean ====
section
/-! DEFINITION. Flag operations, one-register operations, shifts and swaps (44_unary_shift_flag.md). -/

namespace Sys2Proof.Machine

/-- Replace a register by a function of its value, and nothing else (44_unary_shift_flag.md R260). -/
def State.mapReg (s : State) (n : Reg) (g : Word → Word) : Outcome := .next ((s.setReg n (g (s.reg n))).advance)

/-- Replace a register by a function of its value and move one bit of the old value to T. -/
def State.shiftT (s : State) (n : Reg) (g : Word → Word) (bit : Nat) : Outcome :=
  .next (((s.setReg n (g (s.reg n))).setT ((s.reg n).getLsbD bit)).advance)

/-- A barrel shift: DLR has been used (10_state.md R27 item 2). -/
def State.barrel (s : State) (n : Reg) (g : Word → Word → Word) : Outcome :=
  .next (((s.setReg n (g (s.reg n) (s.reg dlr))).dlrClobber (some n)).advance)

/-! Flags -/

/-- CLRT (R261). -/
def execClrt (s : State) : Outcome := .next ((s.setT false).advance)
/-- SETT (R262). -/
def execSett (s : State) : Outcome := .next ((s.setT true).advance)
/-- CLRS (R263). -/
def execClrs (s : State) : Outcome := .next ((s.setS false).advance)
/-- SETS (R264). -/
def execSets (s : State) : Outcome := .next ((s.setS true).advance)
/-- NOTT (R265). -/
def execNott (s : State) : Outcome := .next ((s.setT (!s.sr.t)).advance)
/-- NOTS (R266). -/
def execNots (s : State) : Outcome := .next ((s.setS (!s.sr.s)).advance)

/-! Extension -/

/-- EXTU.B Rn (R267). -/
def execExtuB (n : Reg) (s : State) : Outcome := s.mapReg n fun v => zext (v.extractLsb' 0 8)
/-- EXTU.W Rn (R268). -/
def execExtuW (n : Reg) (s : State) : Outcome := s.mapReg n fun v => zext (v.extractLsb' 0 16)
/-- EXTS.B Rn (R269). -/
def execExtsB (n : Reg) (s : State) : Outcome := s.mapReg n fun v => sext (v.extractLsb' 0 8)
/-- EXTS.W Rn (R270). -/
def execExtsW (n : Reg) (s : State) : Outcome := s.mapReg n fun v => sext (v.extractLsb' 0 16)

/-! Unary arithmetic, and one-bit shifts through T -/

/-- NOT Rn (R271). -/
def execNotReg (n : Reg) (s : State) : Outcome := s.mapReg n fun v => ~~~v
/-- NEG Rn (R272). -/
def execNegReg (n : Reg) (s : State) : Outcome := s.mapReg n fun v => ~~~v + 1#32
/-- NEGC Rn (R273). The borrow of 0 - Rn - T. -/
def execNegcReg (n : Reg) (s : State) : Outcome :=
  let r := subBorrow 0#32 (s.reg n) s.sr.t
  .next (((s.setReg n r.1).setT r.2).advance)
/-- MOVNT Rn (R274). -/
def execMovnt (n : Reg) (s : State) : Outcome := s.mapReg n fun _ => bitWord (!s.sr.t)
/-- ROTL Rn (R275). -/
def execRotl (n : Reg) (s : State) : Outcome := s.mapReg n fun v => (v <<< 1) ||| (v >>> 31)
/-- ROTR Rn (R276). -/
def execRotr (n : Reg) (s : State) : Outcome := s.mapReg n fun v => (v >>> 1) ||| (v <<< 31)
/-- ROTCL Rn (R277). -/
def execRotcl (n : Reg) (s : State) : Outcome := s.shiftT n (fun v => (v <<< 1) ||| bitWord s.sr.t) 31
/-- ROTCR Rn (R278). -/
def execRotcr (n : Reg) (s : State) : Outcome := s.shiftT n (fun v => (v >>> 1) ||| (bitWord s.sr.t <<< 31)) 0
/-- SHLL Rn (R279). -/
def execShll (n : Reg) (s : State) : Outcome := s.shiftT n (fun v => v <<< 1) 31
/-- SHLR Rn (R280). -/
def execShlr (n : Reg) (s : State) : Outcome := s.shiftT n (fun v => v >>> 1) 0
/-- SHAR Rn (R281). -/
def execShar (n : Reg) (s : State) : Outcome := s.shiftT n (fun v => v.sshiftRight 1) 0

/-! Fixed shifts without T -/

/-- SHLL1 Rn (R282). -/
def execShll1 (n : Reg) (s : State) : Outcome := s.mapReg n fun v => v <<< 1
/-- SHLL2 Rn (R283). -/
def execShll2 (n : Reg) (s : State) : Outcome := s.mapReg n fun v => v <<< 2
/-- SHLL4 Rn (R284). -/
def execShll4 (n : Reg) (s : State) : Outcome := s.mapReg n fun v => v <<< 4
/-- SHLL8 Rn (R285). -/
def execShll8 (n : Reg) (s : State) : Outcome := s.mapReg n fun v => v <<< 8
/-- SHLR1 Rn (R286). -/
def execShlr1 (n : Reg) (s : State) : Outcome := s.mapReg n fun v => v >>> 1
/-- SHLR2 Rn (R287). -/
def execShlr2 (n : Reg) (s : State) : Outcome := s.mapReg n fun v => v >>> 2
/-- SHLR4 Rn (R288). -/
def execShlr4 (n : Reg) (s : State) : Outcome := s.mapReg n fun v => v >>> 4
/-- SHLR8 Rn (R289). -/
def execShlr8 (n : Reg) (s : State) : Outcome := s.mapReg n fun v => v >>> 8
/-- SHAR1 Rn (R290). -/
def execShar1 (n : Reg) (s : State) : Outcome := s.mapReg n fun v => v.sshiftRight 1
/-- SHAR2 Rn (R291). -/
def execShar2 (n : Reg) (s : State) : Outcome := s.mapReg n fun v => v.sshiftRight 2
/-- SHAR4 Rn (R292). -/
def execShar4 (n : Reg) (s : State) : Outcome := s.mapReg n fun v => v.sshiftRight 4
/-- SHAR8 Rn (R293). -/
def execShar8 (n : Reg) (s : State) : Outcome := s.mapReg n fun v => v.sshiftRight 8
/-- SHLL16 Rn (R294). -/
def execShll16 (n : Reg) (s : State) : Outcome := s.mapReg n fun v => v <<< 16
/-- SHLR16 Rn (R295). -/
def execShlr16 (n : Reg) (s : State) : Outcome := s.mapReg n fun v => v >>> 16
/-- SHAR16 Rn (R296). -/
def execShar16 (n : Reg) (s : State) : Outcome := s.mapReg n fun v => v.sshiftRight 16
/-- SHARSX Rn (R297). -/
def execSharsx (n : Reg) (s : State) : Outcome :=
  s.mapReg n fun v => if v.getLsbD 31 then 0xFFFFFFFF#32 else 0x00000000#32

/-! Barrel shifts by DLR, and MOVT -/

/-- SHLD DLR, Rn (R299). -/
def execShld (n : Reg) (s : State) : Outcome := s.barrel n barrelLogical
/-- SHAD DLR, Rn (R300). -/
def execShad (n : Reg) (s : State) : Outcome := s.barrel n barrelArithmetic
/-- MOVT Rn (R301). -/
def execMovt (n : Reg) (s : State) : Outcome := s.mapReg n fun _ => bitWord s.sr.t

/-! Swaps -/

/-- SWAP.B Rn (R302). -/
def execSwapB (n : Reg) (s : State) : Outcome :=
  s.mapReg n fun v => v.extractLsb' 16 8 ++ v.extractLsb' 24 8 ++ v.extractLsb' 0 8 ++ v.extractLsb' 8 8
/-- SWAP.W Rn (R303). -/
def execSwapW (n : Reg) (s : State) : Outcome := s.mapReg n fun v => v.extractLsb' 0 16 ++ v.extractLsb' 16 16
/-- SWAP.LB Rn (R304). -/
def execSwapLb (n : Reg) (s : State) : Outcome :=
  s.mapReg n fun v => v.extractLsb' 16 16 ++ v.extractLsb' 0 8 ++ v.extractLsb' 8 8

end Sys2Proof.Machine
end

