-- ==== Sys2Proof/Machine/Dispatch.lean ====
section
/-! DEFINITION. One arm per instruction: its meaning. -/

namespace Sys2Proof.Machine

def exec (i : Instr) (s : State) : Host.Outcome State Fault Refusal :=
  match i with
  | .movbStore n m => Sys2Proof.Machine.execMovbStore n m s
  | .movwStore n m => Sys2Proof.Machine.execMovwStore n m s
  | .movlStore n m => Sys2Proof.Machine.execMovlStore n m s
  | .movubLoad n m => Sys2Proof.Machine.execMovubLoad n m s
  | .movbStoreDlr n m => Sys2Proof.Machine.execMovbStoreDlr n m s
  | .movwStoreDlr n m => Sys2Proof.Machine.execMovwStoreDlr n m s
  | .movlStoreDlr n m => Sys2Proof.Machine.execMovlStoreDlr n m s
  | .movubLoadDlr n m => Sys2Proof.Machine.execMovubLoadDlr n m s
  | .movbLoad n m => Sys2Proof.Machine.execMovbLoad n m s
  | .movwLoad n m => Sys2Proof.Machine.execMovwLoad n m s
  | .movlLoad n m => Sys2Proof.Machine.execMovlLoad n m s
  | .movuwLoad n m => Sys2Proof.Machine.execMovuwLoad n m s
  | .movbLoadDlr n m => Sys2Proof.Machine.execMovbLoadDlr n m s
  | .movwLoadDlr n m => Sys2Proof.Machine.execMovwLoadDlr n m s
  | .movlLoadDlr n m => Sys2Proof.Machine.execMovlLoadDlr n m s
  | .movuwLoadDlr n m => Sys2Proof.Machine.execMovuwLoadDlr n m s
  | .addReg n m => Sys2Proof.Machine.execAddReg n m s
  | .subReg n m => Sys2Proof.Machine.execSubReg n m s
  | .adcReg n m => Sys2Proof.Machine.execAdcReg n m s
  | .sbbReg n m => Sys2Proof.Machine.execSbbReg n m s
  | .tstReg n m => Sys2Proof.Machine.execTstReg n m s
  | .andReg n m => Sys2Proof.Machine.execAndReg n m s
  | .orReg n m => Sys2Proof.Machine.execOrReg n m s
  | .xorReg n m => Sys2Proof.Machine.execXorReg n m s
  | .movReg n m => Sys2Proof.Machine.execMovReg n m s
  | .cmpeqReg n m => Sys2Proof.Machine.execCmpeqReg n m s
  | .cmphiReg n m => Sys2Proof.Machine.execCmphiReg n m s
  | .cmpgtReg n m => Sys2Proof.Machine.execCmpgtReg n m s
  | .braDisp d => Sys2Proof.Machine.execBraDisp d s
  | .bsrDisp d => Sys2Proof.Machine.execBsrDisp d s
  | .btDisp d => Sys2Proof.Machine.execBtDisp d s
  | .bfDisp d => Sys2Proof.Machine.execBfDisp d s
  | .ldiz8 j => Sys2Proof.Machine.execLdiz8 j s
  | .ldin8 j => Sys2Proof.Machine.execLdin8 j s
  | .ldish j => Sys2Proof.Machine.execLdish j s
  | .movuwLoadSp n d => Sys2Proof.Machine.execMovuwLoadSp n d s
  | .movlStoreSp n d => Sys2Proof.Machine.execMovlStoreSp n d s
  | .movwStoreSp n d => Sys2Proof.Machine.execMovwStoreSp n d s
  | .movlLoadSp n d => Sys2Proof.Machine.execMovlLoadSp n d s
  | .movwLoadSp n d => Sys2Proof.Machine.execMovwLoadSp n d s
  | .cmpeqImmU n j => Sys2Proof.Machine.execCmpeqImmU n j s
  | .cmpeqImmN n j => Sys2Proof.Machine.execCmpeqImmN n j s
  | .cmpgtImm n j => Sys2Proof.Machine.execCmpgtImm n j s
  | .cmpgeImm n j => Sys2Proof.Machine.execCmpgeImm n j s
  | .nop => Sys2Proof.Machine.execNop s
  | .rts => Sys2Proof.Machine.execRts s
  | .sleep => Sys2Proof.Machine.execSleep s
  | .breakpoint => Sys2Proof.Machine.execBreakpoint s
  | .clrt => Sys2Proof.Machine.execClrt s
  | .sett => Sys2Proof.Machine.execSett s
  | .clrs => Sys2Proof.Machine.execClrs s
  | .sets => Sys2Proof.Machine.execSets s
  | .nott => Sys2Proof.Machine.execNott s
  | .nots => Sys2Proof.Machine.execNots s
  | .ldish16Zero => Sys2Proof.Machine.execLdish16Zero s
  | .ldish16Ones => Sys2Proof.Machine.execLdish16Ones s
  | .rte => Sys2Proof.Machine.execRte s
  | .pushReg n => Sys2Proof.Machine.execPushReg n s
  | .pushCtl n => Sys2Proof.Machine.execPushCtl n s
  | .popReg n => Sys2Proof.Machine.execPopReg n s
  | .popCtl n => Sys2Proof.Machine.execPopCtl n s
  | .cmppl n => Sys2Proof.Machine.execCmppl n s
  | .cmppz n => Sys2Proof.Machine.execCmppz n s
  | .braReg n => Sys2Proof.Machine.execBraReg n s
  | .bsrReg n => Sys2Proof.Machine.execBsrReg n s
  | .btReg n => Sys2Proof.Machine.execBtReg n s
  | .bfReg n => Sys2Proof.Machine.execBfReg n s
  | .extuB n => Sys2Proof.Machine.execExtuB n s
  | .extuW n => Sys2Proof.Machine.execExtuW n s
  | .extsB n => Sys2Proof.Machine.execExtsB n s
  | .extsW n => Sys2Proof.Machine.execExtsW n s
  | .notReg n => Sys2Proof.Machine.execNotReg n s
  | .negReg n => Sys2Proof.Machine.execNegReg n s
  | .negcReg n => Sys2Proof.Machine.execNegcReg n s
  | .movnt n => Sys2Proof.Machine.execMovnt n s
  | .rotl n => Sys2Proof.Machine.execRotl n s
  | .rotr n => Sys2Proof.Machine.execRotr n s
  | .rotcl n => Sys2Proof.Machine.execRotcl n s
  | .rotcr n => Sys2Proof.Machine.execRotcr n s
  | .shll n => Sys2Proof.Machine.execShll n s
  | .shlr n => Sys2Proof.Machine.execShlr n s
  | .shar n => Sys2Proof.Machine.execShar n s
  | .shll1 n => Sys2Proof.Machine.execShll1 n s
  | .shll2 n => Sys2Proof.Machine.execShll2 n s
  | .shll4 n => Sys2Proof.Machine.execShll4 n s
  | .shll8 n => Sys2Proof.Machine.execShll8 n s
  | .shlr1 n => Sys2Proof.Machine.execShlr1 n s
  | .shlr2 n => Sys2Proof.Machine.execShlr2 n s
  | .shlr4 n => Sys2Proof.Machine.execShlr4 n s
  | .shlr8 n => Sys2Proof.Machine.execShlr8 n s
  | .shar1 n => Sys2Proof.Machine.execShar1 n s
  | .shar2 n => Sys2Proof.Machine.execShar2 n s
  | .shar4 n => Sys2Proof.Machine.execShar4 n s
  | .shar8 n => Sys2Proof.Machine.execShar8 n s
  | .shll16 n => Sys2Proof.Machine.execShll16 n s
  | .shlr16 n => Sys2Proof.Machine.execShlr16 n s
  | .shar16 n => Sys2Proof.Machine.execShar16 n s
  | .sharsx n => Sys2Proof.Machine.execSharsx n s
  | .trap j => Sys2Proof.Machine.execTrap j s
  | .shld n => Sys2Proof.Machine.execShld n s
  | .shad n => Sys2Proof.Machine.execShad n s
  | .cmphsDlr n => Sys2Proof.Machine.execCmphsDlr n s
  | .cmpgeDlr n => Sys2Proof.Machine.execCmpgeDlr n s
  | .movt n => Sys2Proof.Machine.execMovt n s
  | .swapB n => Sys2Proof.Machine.execSwapB n s
  | .swapW n => Sys2Proof.Machine.execSwapW n s
  | .swapLb n => Sys2Proof.Machine.execSwapLb n s
  | .pushFpu n => Sys2Proof.Machine.execPushFpu n s
  | .popFpu n => Sys2Proof.Machine.execPopFpu n s
  | .movToCtl n m => Sys2Proof.Machine.execMovToCtl n m s
  | .movFromCtl n m => Sys2Proof.Machine.execMovFromCtl n m s
  | .movToShadow n m => Sys2Proof.Machine.execMovToShadow n m s
  | .movFromShadow n m => Sys2Proof.Machine.execMovFromShadow n m s
  | .leaB n m => Sys2Proof.Machine.execLeaB n m s
  | .leaW n m => Sys2Proof.Machine.execLeaW n m s
  | .leaL n m => Sys2Proof.Machine.execLeaL n m s
  | .leaQ n m => Sys2Proof.Machine.execLeaQ n m s
  | .muls n m => Sys2Proof.Machine.execMuls n m s
  | .mulu n m => Sys2Proof.Machine.execMulu n m s
  | .addDlr n m => Sys2Proof.Machine.execAddDlr n m s
  | .subDlr n m => Sys2Proof.Machine.execSubDlr n m s
  | .andDlr n m => Sys2Proof.Machine.execAndDlr n m s
  | .orDlr n m => Sys2Proof.Machine.execOrDlr n m s
  | .xorDlr n m => Sys2Proof.Machine.execXorDlr n m s
  | .movlStoreDisp4 n m => Sys2Proof.Machine.execMovlStoreDisp4 n m s
  | .movlStoreDisp8 n m => Sys2Proof.Machine.execMovlStoreDisp8 n m s
  | .movlStoreDisp12 n m => Sys2Proof.Machine.execMovlStoreDisp12 n m s
  | .movlStoreDisp16 n m => Sys2Proof.Machine.execMovlStoreDisp16 n m s
  | .movlStoreDisp20 n m => Sys2Proof.Machine.execMovlStoreDisp20 n m s
  | .movlStoreDisp24 n m => Sys2Proof.Machine.execMovlStoreDisp24 n m s
  | .movlStoreDisp28 n m => Sys2Proof.Machine.execMovlStoreDisp28 n m s
  | .movlLoadDisp4 n m => Sys2Proof.Machine.execMovlLoadDisp4 n m s
  | .movlLoadDisp8 n m => Sys2Proof.Machine.execMovlLoadDisp8 n m s
  | .movlLoadDisp12 n m => Sys2Proof.Machine.execMovlLoadDisp12 n m s
  | .movlLoadDisp16 n m => Sys2Proof.Machine.execMovlLoadDisp16 n m s
  | .movlLoadDisp20 n m => Sys2Proof.Machine.execMovlLoadDisp20 n m s
  | .movlLoadDisp24 n m => Sys2Proof.Machine.execMovlLoadDisp24 n m s
  | .movlLoadDisp28 n m => Sys2Proof.Machine.execMovlLoadDisp28 n m s
  | .fmovsStore n m => Sys2Proof.Machine.execFmovsStore n m s
  | .fmovdStore n m => Sys2Proof.Machine.execFmovdStore n m s
  | .fmovsStoreDlr n m => Sys2Proof.Machine.execFmovsStoreDlr n m s
  | .fmovdStoreDlr n m => Sys2Proof.Machine.execFmovdStoreDlr n m s
  | .fmovsLoad n m => Sys2Proof.Machine.execFmovsLoad n m s
  | .fmovdLoad n m => Sys2Proof.Machine.execFmovdLoad n m s
  | .fmovsLoadDlr n m => Sys2Proof.Machine.execFmovsLoadDlr n m s
  | .fmovdLoadDlr n m => Sys2Proof.Machine.execFmovdLoadDlr n m s
  | .fadd n m => Sys2Proof.Machine.execFadd n m s
  | .fsub n m => Sys2Proof.Machine.execFsub n m s
  | .fmul n m => Sys2Proof.Machine.execFmul n m s
  | .fcmpeq n m => Sys2Proof.Machine.execFcmpeq n m s
  | .fcmpgt n m => Sys2Proof.Machine.execFcmpgt n m s
  | .fmovReg n m => Sys2Proof.Machine.execFmovReg n m s
  | .fldcf n => Sys2Proof.Machine.execFldcf n s
  | .fldcd n => Sys2Proof.Machine.execFldcd n s
  | .fldci n => Sys2Proof.Machine.execFldci n s
  | .fldch n => Sys2Proof.Machine.execFldch n s
  | .fstcf n => Sys2Proof.Machine.execFstcf n s
  | .fstcd n => Sys2Proof.Machine.execFstcd n s
  | .fstci n => Sys2Proof.Machine.execFstci n s
  | .fstch n => Sys2Proof.Machine.execFstch n s
  | .fneg n => Sys2Proof.Machine.execFneg n s
  | .fabs n => Sys2Proof.Machine.execFabs n s
  | .ldiz12 j => Sys2Proof.Machine.execLdiz12 j s
  | .ldin12 j => Sys2Proof.Machine.execLdin12 j s
  | .addImm n imm => Sys2Proof.Machine.execAddImm n imm s
  | .movImm n imm => Sys2Proof.Machine.execMovImm n imm s

end Sys2Proof.Machine
end

