-- ==== Sys2Proof/Machine/Interrupt.lean ====
section
/-! DEFINITION. Asynchronous interrupts (60_exceptions.md R420 to R422), the instruction fetch (20_memory.md R65), and one
step of the machine around the meaning of an instruction. -/

namespace Sys2Proof.Machine

/-- The EXSR code of a source (60_exceptions.md R402). -/
def irqCode : IrqSource → Half
  | .general => 0xC000#16
  | .timer => 0xC001#16
  | .uart => 0xC002#16
  | .spi => 0xC003#16

/-- `irq_class`: timers are medium, the other classes are parameters (60_exceptions.md R420). -/
def irqClass (cfg : Config) : IrqSource → IrqClass
  | .general => cfg.generalClass
  | .timer => .medium
  | .uart => cfg.uartClass
  | .spi => cfg.spiClass

/-- The source is in the set. -/
def IrqSet.has (p : IrqSet) : IrqSource → Bool
  | .general => p.general
  | .timer => p.timer
  | .uart => p.uart
  | .spi => p.spi

/-- All the sources (60_exceptions.md R402). -/
def irqSources : List IrqSource := [.general, .timer, .uart, .spi]

/-- IPL admits a class: 00 none, 01 high, 10 high and medium, 11 all (60_exceptions.md R421). -/
def iplAdmits (ipl : BitVec 2) (c : IrqClass) : Bool :=
  match c with
  | .high => ipl != 0#2
  | .medium => ipl == 2#2 || ipl == 3#2
  | .low => ipl == 3#2

/-- `enabled(s)` (60_exceptions.md R421). -/
def State.irqEnabled (s : State) (src : IrqSource) : Bool := !s.sr.bl && iplAdmits s.sr.ipl (irqClass s.cfg src)

/-- `cand`: the pending, enabled sources (60_exceptions.md R421). -/
def State.irqCandidates (s : State) : List IrqSource :=
  irqSources.filter fun src => s.pending.has src && s.irqEnabled src

/-- The candidates of the highest class that has one (60_exceptions.md R422). -/
def topClass (cfg : Config) (cand : List IrqSource) : List IrqSource :=
  let ofClass := fun c => cand.filter fun src => irqClass cfg src == c
  if (ofClass .high).isEmpty then
    if (ofClass .medium).isEmpty then ofClass .low else ofClass .medium
  else ofClass .high

/-- The source accepted at this boundary, if any; among several of one class, a free choice (60_exceptions.md R421, R422).
The state after counts the draw. -/
def State.acceptIrq (s : State) : Option (IrqSource × State) :=
  match topClass s.cfg s.irqCandidates with
  | [] => none
  | [src] => some (src, s)
  | src :: rest =>
    let all := src :: rest
    some (all.getD (Config.pick s.draws all % all.length) src, { s with draws := s.draws + 1 })

/-- The environment presents its next set of requests at the boundary (60_exceptions.md R420); with none left, the last set
stands (log entry 7). -/
def State.present (s : State) : State :=
  match s.inputs with
  | [] => s
  | p :: ps => { s with pending := p, inputs := ps }

/-- `Fetch(pc)`: the word and the state after, or the code to raise (20_memory.md R62, R65). -/
def State.fetch (s : State) : Except Half (Half × State) :=
  if s.pc.getLsbD 0 then .error 0x800B#16
  else match s.checkAccess s.pc 2 Region.exec 0x800B#16 0x8003#16 with
    | some code => .error code
    | none => .ok (leWord 16 (s.loadBytes s.pc 2), s.noteLoad s.pc 2)

/-- The byte of the fetched word this run has stored, where the configuration refuses such a run
(20_memory.md R78, 93_implementation_defined.md U12). -/
def State.selfModifiedAt (s : State) : Option Nat :=
  if s.cfg.refuseSelfModified then (accessAddrs s.pc 2).find? fun a => s.stored.contains a else none

/-- One instruction: fetch, decode, run (60_exceptions.md R422 item 3). -/
def runInstruction (run : Instr → State → Outcome) (s : State) : Outcome :=
  match s.fetch with
  | .error code => s.raise code
  | .ok (w, t) =>
    match s.selfModifiedAt with
    | some a => .refused (.selfModified a)
    | none =>
      match decodeWord w with
      | .error why => .fault (.reservedWord w why s.pc)
      | .ok i => run i t

/-- One step: at the boundary the environment presents its requests; an accepted interrupt is the whole step
(60_exceptions.md R421, R422); a sleeping core does nothing else (45_system.md R320); otherwise one instruction runs. -/
def stepWith (run : Instr → State → Outcome) (s : State) : Outcome :=
  let p := s.present
  match p.acceptIrq with
  | some (src, t) => .next (t.trapEntry (irqCode src) 0x10#32 p.pc)
  | none => if p.sleeping then .next p else runInstruction run p

end Sys2Proof.Machine
end

