-- ==== Sys2Proof/Machine/Step.lean ====
section
/-! DEFINITION. One step of the machine, and where it fetches its next instruction. -/

namespace Sys2Proof.Machine

/-- One step (60_exceptions.md R421, R422): `stepWith` over the meanings of the instructions. -/
def step (s : State) : Host.Outcome State Fault Refusal := stepWith exec s

/-- The state with the instruction whose bits are `w` (`nbits` of them given, zero above) in memory where the next step
fetches, as the image the environment places has it (70_reset_and_hazards.md R452; log entry 25). The two bytes then count
as placed, not as stored by the run (20_memory.md R78). -/
def State.withFetchWord (s : State) (nbits w : Nat) : State :=
  let bits := BitVec.ofNat 16 (w % 2 ^ nbits)
  { s with
    mem := (s.mem.write (byteAddr s.pc 0) (bits.extractLsb' 0 8)).write (byteAddr s.pc 1) (bits.extractLsb' 8 8)
    stored := s.stored.filter fun a => !(accessAddrs s.pc 2).contains a }

end Sys2Proof.Machine
end

