-- ==== Sys2Proof/Safety.lean ====
section
/-! DEFINITION. The terms of the claims: what a state must satisfy, when an access is allowed, what an instruction leaves
unchanged, what taking an exception leaves, and when a run goes on. -/

namespace Sys2Proof.Machine

/-! ## Runs -/

/-- The states a run passes through. -/
inductive Reaches : State → State → Prop where
  | refl (s : State) : Reaches s s
  | tail {s t u : State} : Reaches s t → step t = .next u → Reaches s u

/-- A run that never stops: no fault and no refusal is ever answered. -/
def SafeFrom (s : State) : Prop := ∀ t, Reaches s t → ∃ u, step t = .next u

/-- Asleep with no request that could wake the core and none to come: the run is stuck (45_system.md R320). -/
def State.stuckAsleep (s : State) : Bool := s.sleeping && s.inputs.isEmpty && s.irqCandidates.isEmpty

/-- What every step keeps: the memory and the list of stored addresses are in canonical form, and neither has an address
of a device, whose bytes are not the memory's (20_memory.md R72). -/
def State.inv (s : State) : Bool :=
  s.mem.wf && addrsWf s.stored && s.stored.all (fun a => !s.isDevice a) &&
    s.mem.cells.all (fun c => !s.isDevice c.1)

/-! ## Accesses -/

/-- A data access reads or writes. -/
inductive AccessKind where
  | read | write
deriving DecidableEq, Repr

/-- Every byte of the access exists in MemMap (20_memory.md R63 to R65). -/
def Mapped (s : State) (a : Word) (k : Nat) : Prop := ∀ i < k, ∃ r, regionAt s.cfg (byteAddr a i) = some r

/-- Every byte of the access exists and its region allows it (20_memory.md R63 to R65). -/
def Allows (allows : Region → Bool) (s : State) (a : Word) (k : Nat) : Prop :=
  ∀ i < k, ∃ r, regionAt s.cfg (byteAddr a i) = some r ∧ allows r = true

/-- The access is aligned, or misaligned accesses are supported (20_memory.md R66). -/
def AlignedOk (s : State) (a : Word) (k : Nat) : Prop := s.cfg.misalignedOk = true ∨ a.toNat % k = 0

/-- A data read that raises nothing (20_memory.md R63). -/
def Readable (s : State) (a : Word) (k : Nat) : Prop := AlignedOk s a k ∧ Allows Region.read s a k

/-- A data write that raises nothing (20_memory.md R64). -/
def Writable (s : State) (a : Word) (k : Nat) : Prop := AlignedOk s a k ∧ Allows Region.write s a k

/-- A fetch that raises nothing (20_memory.md R65). -/
def Fetchable (s : State) : Prop := s.pc.getLsbD 0 = false ∧ Allows Region.exec s s.pc 2

/-- Byte `i` of a read at `a` that state `s` makes: memory's byte, or the device's answer (20_memory.md R72). -/
def State.readByte (s : State) (a : Word) (i : Nat) : Byte :=
  if s.isDevice (byteAddr a i) then Config.deviceByte (s.draws + i) (byteAddr a i) else s.mem.read (byteAddr a i)

/-- The little-endian values at `a` (20_memory.md R61). -/
def State.le8 (s : State) (a : Word) : Byte := s.readByte a 0
/-- Two bytes (20_memory.md R61). -/
def State.le16 (s : State) (a : Word) : Half := s.readByte a 1 ++ s.readByte a 0
/-- Four bytes (20_memory.md R61). -/
def State.le32 (s : State) (a : Word) : Word := s.readByte a 3 ++ s.readByte a 2 ++ s.readByte a 1 ++ s.readByte a 0
/-- Eight bytes (20_memory.md R61). -/
def State.le64 (s : State) (a : Word) : DWord :=
  s.readByte a 7 ++ s.readByte a 6 ++ s.readByte a 5 ++ s.readByte a 4 ++
    s.readByte a 3 ++ s.readByte a 2 ++ s.readByte a 1 ++ s.readByte a 0

/-- The low `k` bytes of `v` stand at `a` in `t`, little-endian, wherever memory and no device is (20_memory.md R61). -/
def Stored {w : Nat} (s t : State) (a : Word) (k : Nat) (v : BitVec w) : Prop :=
  ∀ i < k, s.isDevice (byteAddr a i) = false → t.mem.read (byteAddr a i) = v.extractLsb' (8 * i) 8

/-- The data access an instruction makes: its kind, its address and its size (20_memory.md R70). -/
def accessOf (s : State) : Instr → Option (AccessKind × Word × Nat)
  | .movbStore n _ => some (.write, s.eaReg n, 1)
  | .movwStore n _ => some (.write, s.eaReg n, 2)
  | .movlStore n _ => some (.write, s.eaReg n, 4)
  | .movubLoad _ m => some (.read, s.eaReg m, 1)
  | .movbStoreDlr n _ => some (.write, s.eaIdx 1#32 n, 1)
  | .movwStoreDlr n _ => some (.write, s.eaIdx 2#32 n, 2)
  | .movlStoreDlr n _ => some (.write, s.eaIdx 4#32 n, 4)
  | .movubLoadDlr _ m => some (.read, s.eaIdx 1#32 m, 1)
  | .movbLoad _ m => some (.read, s.eaReg m, 1)
  | .movwLoad _ m => some (.read, s.eaReg m, 2)
  | .movlLoad _ m => some (.read, s.eaReg m, 4)
  | .movuwLoad _ m => some (.read, s.eaReg m, 2)
  | .movbLoadDlr _ m => some (.read, s.eaIdx 1#32 m, 1)
  | .movwLoadDlr _ m => some (.read, s.eaIdx 2#32 m, 2)
  | .movlLoadDlr _ m => some (.read, s.eaIdx 4#32 m, 4)
  | .movuwLoadDlr _ m => some (.read, s.eaIdx 2#32 m, 2)
  | .movuwLoadSp _ d => some (.read, s.eaSp 2#32 d, 2)
  | .movlStoreSp _ d => some (.write, s.eaSp 4#32 d, 4)
  | .movwStoreSp _ d => some (.write, s.eaSp 2#32 d, 2)
  | .movlLoadSp _ d => some (.read, s.eaSp 4#32 d, 4)
  | .movwLoadSp _ d => some (.read, s.eaSp 2#32 d, 2)
  | .pushReg _ => some (.write, s.reg sp - 4#32, 4)
  | .pushCtl _ => some (.write, s.reg sp - 4#32, 4)
  | .popReg _ => some (.read, s.reg sp, 4)
  | .popCtl _ => some (.read, s.reg sp, 4)
  | .pushFpu _ => some (.write, s.reg sp - 8#32, 8)
  | .popFpu _ => some (.read, s.reg sp, 8)
  | .movlStoreDisp4 n _ => some (.write, s.eaDsp n 1#32, 4)
  | .movlStoreDisp8 n _ => some (.write, s.eaDsp n 2#32, 4)
  | .movlStoreDisp12 n _ => some (.write, s.eaDsp n 3#32, 4)
  | .movlStoreDisp16 n _ => some (.write, s.eaDsp n 4#32, 4)
  | .movlStoreDisp20 n _ => some (.write, s.eaDsp n 5#32, 4)
  | .movlStoreDisp24 n _ => some (.write, s.eaDsp n 6#32, 4)
  | .movlStoreDisp28 n _ => some (.write, s.eaDsp n 7#32, 4)
  | .movlLoadDisp4 _ m => some (.read, s.eaDsp m 1#32, 4)
  | .movlLoadDisp8 _ m => some (.read, s.eaDsp m 2#32, 4)
  | .movlLoadDisp12 _ m => some (.read, s.eaDsp m 3#32, 4)
  | .movlLoadDisp16 _ m => some (.read, s.eaDsp m 4#32, 4)
  | .movlLoadDisp20 _ m => some (.read, s.eaDsp m 5#32, 4)
  | .movlLoadDisp24 _ m => some (.read, s.eaDsp m 6#32, 4)
  | .movlLoadDisp28 _ m => some (.read, s.eaDsp m 7#32, 4)
  | .fmovsStore n _ => some (.write, s.eaReg n, 4)
  | .fmovdStore n _ => some (.write, s.eaReg n, 8)
  | .fmovsStoreDlr n _ => some (.write, s.eaIdx 4#32 n, 4)
  | .fmovdStoreDlr n _ => some (.write, s.eaIdx 8#32 n, 8)
  | .fmovsLoad _ m => some (.read, s.eaReg m, 4)
  | .fmovdLoad _ m => some (.read, s.eaReg m, 8)
  | .fmovsLoadDlr _ m => some (.read, s.eaIdx 4#32 m, 4)
  | .fmovdLoadDlr _ m => some (.read, s.eaIdx 8#32 m, 8)
  | .addReg _ _ | .subReg _ _ | .adcReg _ _ | .sbbReg _ _ | .tstReg _ _ | .andReg _ _ | .orReg _ _ | .xorReg _ _
  | .movReg _ _ | .cmpeqReg _ _ | .cmphiReg _ _ | .cmpgtReg _ _ | .braDisp _ | .bsrDisp _ | .btDisp _ | .bfDisp _
  | .ldiz8 _ | .ldin8 _ | .ldish _ | .cmpeqImmU _ _ | .cmpeqImmN _ _ | .cmpgtImm _ _ | .cmpgeImm _ _ | .nop | .rts
  | .sleep | .breakpoint | .clrt | .sett | .clrs | .sets | .nott | .nots | .ldish16Zero | .ldish16Ones | .rte
  | .cmppl _ | .cmppz _ | .braReg _ | .bsrReg _ | .btReg _ | .bfReg _ | .extuB _ | .extuW _ | .extsB _ | .extsW _
  | .notReg _ | .negReg _ | .negcReg _ | .movnt _ | .rotl _ | .rotr _ | .rotcl _ | .rotcr _ | .shll _ | .shlr _
  | .shar _ | .shll1 _ | .shll2 _ | .shll4 _ | .shll8 _ | .shlr1 _ | .shlr2 _ | .shlr4 _ | .shlr8 _ | .shar1 _
  | .shar2 _ | .shar4 _ | .shar8 _ | .shll16 _ | .shlr16 _ | .shar16 _ | .sharsx _ | .trap _ | .shld _ | .shad _
  | .cmphsDlr _ | .cmpgeDlr _ | .movt _ | .swapB _ | .swapW _ | .swapLb _ | .movToCtl _ _ | .movFromCtl _ _
  | .movToShadow _ _ | .movFromShadow _ _ | .leaB _ _ | .leaW _ _ | .leaL _ _ | .leaQ _ _ | .muls _ _ | .mulu _ _
  | .addDlr _ _ | .subDlr _ _ | .andDlr _ _ | .orDlr _ _ | .xorDlr _ _ | .fadd _ _ | .fsub _ _ | .fmul _ _
  | .fcmpeq _ _ | .fcmpgt _ _ | .fmovReg _ _ | .fldcf _ | .fldcd _ | .fldci _ | .fldch _ | .fstcf _ | .fstcd _
  | .fstci _ | .fstch _ | .fneg _ | .fabs _ | .ldiz12 _ | .ldin12 _ | .addImm _ _ | .movImm _ _ => none

/-! ## What an instruction does -/

/-- `w` is the word of `i`: the decoder reads it so, and the encoder writes it so. -/
def IsWord (w : Half) (i : Instr) : Prop := decodeWord w = .ok i ∧ encode i = w

/-- `v` is a free word drawn on the way from `s` to `t`, the `k`-th draw (00_scope.md R11, `undef32()`). -/
def Drawn (s t : State) (k : Nat) (v : Word) : Prop := s.draws ≤ k ∧ k < t.draws ∧ v = Config.freeWord k

/-- R0 is undefined after the instruction, unless it is the named destination (10_state.md R27 item 2). -/
def DlrClobbered (s t : State) (dst : Option Reg) : Prop := dst ≠ some dlr → ∃ k, Drawn s t k (t.reg dlr)

/-- R0 and R1 are undefined after a MOV.x, by separate draws, each unless it is the named destination
(40_load_store.md R120). -/
def MovClobbered (s t : State) (dst : Option Reg) : Prop :=
  ∃ j k, j ≠ k ∧ (dst ≠ some dlr → Drawn s t j (t.reg dlr)) ∧ (dst ≠ some dhr → Drawn s t k (t.reg dhr))

/-- R0, R1 and T are undefined after a branch, by separate draws (42_branch.md R220). -/
def BranchClobbered (s t : State) : Prop :=
  ∃ j k l, j ≠ k ∧ j ≠ l ∧ k ≠ l ∧ Drawn s t j (t.reg dlr) ∧ Drawn s t k (t.reg dhr) ∧
    s.draws ≤ l ∧ l < t.draws ∧ t.sr.t = Config.freeBit l

/-- `t` is `s` except: the general registers `regs`, the FPU registers `fregs`, the control registers `ctl`, the memory
bytes at `stores`, and what the environment sees of an access to `touched` if a device is there. PC and SR are each
statement's own; `draws` and `stored` are the model's own. -/
structure Frame (s t : State) (regs : List Reg) (fregs : List FReg) (ctl : List CReg) (stores touched : List Nat) :
    Prop where
  regs     : ∀ r, r ∉ regs → t.reg r = s.reg r
  fregs    : ∀ r, r ∉ fregs → t.freg r = s.freg r
  ctl      : ∀ c, c ≠ 0#4 → c ≠ 2#4 → c ∉ ctl → t.creg c = s.creg c
  mem      : ∀ a, a ∉ stores → t.mem.read a = s.mem.read a
  sleeping : t.sleeping = s.sleeping
  outside  : t.cfg = s.cfg ∧ t.pending = s.pending ∧ t.inputs = s.inputs
  devices  : (∀ a ∈ touched, s.isDevice a = false) → t.devLog = s.devLog

/-- `t` is `s` after trap entry with `code`, vector offset `off` and saved PC `ret`, and nothing else has changed
(60_exceptions.md R410, R413). -/
structure Entered (s t : State) (code : Half) (off ret : Word) : Prop where
  spc      : t.spc = ret
  ssp      : t.ssp = s.reg sp
  ssr      : t.ssr = s.sr.toWord
  sr       : t.sr.toWord = s.sr.toWord ||| 0x70000000#32
  exsr     : t.exsr = code.setWidth 32
  sleeping : t.sleeping = false
  pc       : t.pc = s.vbr + off
  regs     : ∀ r, t.reg r = s.reg r
  fregs    : ∀ r, t.freg r = s.freg r
  ctl      : t.lr = s.lr ∧ t.vbr = s.vbr ∧ t.gbr = s.gbr ∧ t.tbr = s.tbr
  mem      : ∀ a, t.mem.read a = s.mem.read a
  outside  : t.cfg = s.cfg ∧ t.pending = s.pending ∧ t.inputs = s.inputs
  devices  : t.devLog = s.devLog

/-- An instruction that writes general register `n` and nothing else. -/
def WritesReg (s : State) (i : Instr) (w : Half) (n : Reg) (v : Word) : Prop :=
  IsWord w i ∧ ∃ t, exec i s = .next t ∧
    t.reg n = v ∧ t.sr = s.sr ∧ t.pc = s.pc + 2#32 ∧ Frame s t [n] [] [] [] []

/-- An instruction that writes general register `n` and T and nothing else. -/
def WritesRegT (s : State) (i : Instr) (w : Half) (n : Reg) (v : Word) (b : Bool) : Prop :=
  IsWord w i ∧ ∃ t, exec i s = .next t ∧
    t.reg n = v ∧ t.sr = { s.sr with t := b } ∧ t.pc = s.pc + 2#32 ∧ Frame s t [n] [] [] [] []

/-- An instruction that writes SR alone. -/
def WritesSr (s : State) (i : Instr) (w : Half) (r : StatusReg) : Prop :=
  IsWord w i ∧ ∃ t, exec i s = .next t ∧ t.sr = r ∧ t.pc = s.pc + 2#32 ∧ Frame s t [] [] [] [] []

/-- An instruction that writes T alone (41_arith_logic.md R171). -/
def WritesT (s : State) (i : Instr) (w : Half) (b : Bool) : Prop := WritesSr s i w { s.sr with t := b }

/-- An instruction that uses DLR by name, writes general register `n`, and leaves R0 undefined unless `n` is 0
(10_state.md R27 item 2). -/
def WritesRegUsingDlr (s : State) (i : Instr) (w : Half) (n : Reg) (v : Word) : Prop :=
  IsWord w i ∧ ∃ t, exec i s = .next t ∧
    t.reg n = v ∧ DlrClobbered s t (some n) ∧ t.sr = s.sr ∧ t.pc = s.pc + 2#32 ∧ Frame s t [n, dlr] [] [] [] []

/-- A branch to `target`: R0, R1 and T undefined, the rest of SR kept (42_branch.md R220); `link` is what LR holds
after. -/
def Branches (s : State) (i : Instr) (w : Half) (target link : Word) : Prop :=
  IsWord w i ∧ ∃ t, exec i s = .next t ∧
    t.pc = target ∧ t.lr = link ∧ BranchClobbered s t ∧ t.sr = { s.sr with t := t.sr.t } ∧
    Frame s t [dlr, dhr] [] [1#4] [] []

/-- A MOV.x load of `k` bytes at `a`: the destination takes `v`, R0 and R1 are undefined unless they are the destination;
a failing check raises one of `codes` and nothing else happens (40_load_store.md R120). -/
def Loads (s : State) (i : Instr) (w : Half) (n : Reg) (a : Word) (k : Nat) (v : Word) (codes : List Half) : Prop :=
  IsWord w i ∧
  (Readable s a k → ∃ t, exec i s = .next t ∧
    t.reg n = v ∧ MovClobbered s t (some n) ∧ t.sr = s.sr ∧ t.pc = s.pc + 2#32 ∧
    Frame s t [n, dlr, dhr] [] [] [] (accessAddrs a k)) ∧
  (∀ code, s.memRead a k = .error code → code ∈ codes ∧ exec i s = s.raise code)

/-- A MOV.x store of the low `k` bytes of `v` at `a`: R0 and R1 are undefined; a failing check raises one of `codes` and
nothing else happens (40_load_store.md R120). -/
def Stores (s : State) (i : Instr) (w : Half) (a : Word) (k : Nat) (v : Word) (codes : List Half) : Prop :=
  IsWord w i ∧
  (Writable s a k → ∃ t, exec i s = .next t ∧
    Stored s t a k v ∧ MovClobbered s t none ∧ t.sr = s.sr ∧ t.pc = s.pc + 2#32 ∧
    Frame s t [dlr, dhr] [] [] (accessAddrs a k) (accessAddrs a k)) ∧
  (∀ code, s.memWrite a k v = .error code → code ∈ codes ∧ exec i s = s.raise code)

/-- PUSH of `k` bytes of `v`: stored below SP, then SP moves there; a failing check raises and SP keeps its value
(40_load_store.md R144). -/
def Pushes {b : Nat} (s : State) (i : Instr) (w : Half) (k : Nat) (v : BitVec b) : Prop :=
  IsWord w i ∧
  (Writable s (s.reg sp - BitVec.ofNat 32 k) k → ∃ t, exec i s = .next t ∧
    Stored s t (s.reg sp - BitVec.ofNat 32 k) k v ∧ t.reg sp = s.reg sp - BitVec.ofNat 32 k ∧ t.sr = s.sr ∧
    t.pc = s.pc + 2#32 ∧
    Frame s t [sp] [] [] (accessAddrs (s.reg sp - BitVec.ofNat 32 k) k)
      (accessAddrs (s.reg sp - BitVec.ofNat 32 k) k)) ∧
  (∀ code, s.memWrite (s.reg sp - BitVec.ofNat 32 k) k v = .error code →
    code ∈ [0x800A#16, 0x8000#16, 0x8002#16] ∧ exec i s = s.raise code)

/-- A data read that fails its checks raises one of the read codes and nothing else happens
(20_memory.md R63, R69). -/
def RaisesOnRead (s : State) (i : Instr) (a : Word) (k : Nat) : Prop :=
  ∀ code, s.memRead a k = .error code → code ∈ [0x8009#16, 0x8000#16, 0x8001#16] ∧ exec i s = s.raise code

/-- An FPU instruction, where the FPU is present, that writes FPU register `n` and nothing else. -/
def WritesFreg (s : State) (i : Instr) (w : Half) (n : FReg) (v : DWord) : Prop :=
  IsWord w i ∧ (s.cfg.hasFpu = true → ∃ t, exec i s = .next t ∧
    t.freg n = v ∧ t.sr = s.sr ∧ t.pc = s.pc + 2#32 ∧ Frame s t [] [n] [] [] [])

/-- An FPU instruction, where the FPU is present, that writes FPU register `n` from DLR, which is undefined after
(46_fpu.md R354). -/
def WritesFregFromDlr (s : State) (i : Instr) (w : Half) (n : FReg) (v : DWord) : Prop :=
  IsWord w i ∧ (s.cfg.hasFpu = true → ∃ t, exec i s = .next t ∧
    t.freg n = v ∧ DlrClobbered s t none ∧ t.sr = s.sr ∧ t.pc = s.pc + 2#32 ∧ Frame s t [dlr] [n] [] [] [])

/-- An FPU load, where the FPU is present; `used` is R0 for an indexed form, which leaves it undefined
(46_fpu.md R354). -/
def FpuLoads (s : State) (i : Instr) (w : Half) (n : FReg) (a : Word) (k : Nat) (v : DWord) (used : List Reg) : Prop :=
  IsWord w i ∧ (s.cfg.hasFpu = true →
    (Readable s a k → ∃ t, exec i s = .next t ∧
      t.freg n = v ∧ (dlr ∈ used → DlrClobbered s t none) ∧ t.sr = s.sr ∧ t.pc = s.pc + 2#32 ∧
      Frame s t used [n] [] [] (accessAddrs a k)) ∧
    RaisesOnRead s i a k)

/-- An FPU store, where the FPU is present; `used` is R0 for an indexed form, which leaves it undefined
(46_fpu.md R354). -/
def FpuStores {b : Nat} (s : State) (i : Instr) (w : Half) (a : Word) (k : Nat) (v : BitVec b) (used : List Reg) :
    Prop :=
  IsWord w i ∧ (s.cfg.hasFpu = true →
    (Writable s a k → ∃ t, exec i s = .next t ∧
      Stored s t a k v ∧ (dlr ∈ used → DlrClobbered s t none) ∧ t.sr = s.sr ∧ t.pc = s.pc + 2#32 ∧
      Frame s t used [] [] (accessAddrs a k) (accessAddrs a k)) ∧
    (∀ code, s.memWrite a k v = .error code →
      code ∈ [0x800A#16, 0x8000#16, 0x8002#16] ∧ exec i s = s.raise code))

/-- The instruction stops on a reserved operand value, naming its word and its address (30_encoding.md R105). -/
def StopsReserved (s : State) (i : Instr) (w : Half) : Prop :=
  IsWord w i ∧ exec i s = .fault (.reservedOperand w s.pc)

/-- The classes of interrupt sources in their order (60_exceptions.md R422). -/
def irqRank : IrqClass → Nat
  | .low => 0
  | .medium => 1
  | .high => 2

/-- `enabled(s)` as 60_exceptions.md R421 writes it. -/
def Enabled (s : State) (src : IrqSource) : Prop :=
  s.sr.bl = false ∧
    (s.sr.ipl = 3#2 ∨
     (s.sr.ipl = 2#2 ∧ (irqClass s.cfg src = .high ∨ irqClass s.cfg src = .medium)) ∨
     (s.sr.ipl = 1#2 ∧ irqClass s.cfg src = .high))

/-- `s in cand` (60_exceptions.md R421). -/
def Candidate (s : State) (src : IrqSource) : Prop := s.pending.has src = true ∧ Enabled s src

/-! ## The step -/

/-- No source is accepted at this boundary and the core is not asleep, so the next instruction is fetched
(60_exceptions.md R421, R422). -/
def Awake (s : State) : Prop := (∀ src, ¬ Candidate s.present src) ∧ s.sleeping = false

/-- The step fetches the word `w` (20_memory.md R62, R65), and the run is not refused for having stored it
(20_memory.md R78). -/
def Fetches (s : State) (w : Half) : Prop :=
  Awake s ∧ Fetchable s ∧ s.selfModifiedAt = none ∧ s.le16 s.pc = w

/-- A control-register number without a name (10_state.md R48). -/
def unnamedCtl (c : Nat) : Bool := [8, 9, 10, 13, 14, 15].contains c

/-- The words that are no instruction, or have a reserved operand value, by the rows of 30_encoding.md R104; `a b n m` are
the four digits of the word. The last argument pair says whether the FPU and its PUSH and POP are present. -/
def reservedDigits (a b n m : Nat) (fpu pushPop : Bool) : Bool :=
  match a with
  | 1 => [0x9, 0xA, 0xB, 0xF].contains b
  | 3 =>
    match b with
    | 0 => m != 0 || decide (0xD ≤ n)
    | 1 => decide (m ≤ 7) || decide (0xE ≤ m) || ((m == 0x9 || m == 0xB) && unnamedCtl n)
    | 2 => decide (8 ≤ m)
    | 3 => decide (0xB ≤ m)
    | 5 => true
    | 6 => [0x0, 0x1, 0x2, 0x4, 0x5, 0x8, 0x9, 0xA, 0xB, 0xC].contains m
    | 7 => m == 2 || m == 3 || decide (5 ≤ m)
    | 8 => !(m == 2 || m == 3) || !(fpu && pushPop)
    | 9 | 10 | 11 | 12 | 13 | 14 | 15 => true
    | _ => false
  | 4 => decide (b ≤ 7) || b == 0xA || b == 0xB || (b == 8 && unnamedCtl n) || (b == 9 && unnamedCtl m)
  | 5 => decide (b ≤ 5) || [0xA, 0xB, 0xC].contains b
  | 6 | 7 | 14 | 15 => true
  | 8 => b == 0 || b == 8
  | 9 => !fpu || b == 0xB || (b == 0xF && decide (0xA ≤ m))
  | _ => false

/-- The word is reserved on an implementation with these parameters (30_encoding.md R104, 46_fpu.md R350). -/
def ReservedWord (cfg : Config) (w : Half) : Prop :=
  reservedDigits (nibbleA w).toNat (nibbleB w).toNat (nibbleN w).toNat (nibbleM w).toNat cfg.hasFpu cfg.hasFpuPushPop
    = true

/-- SLEEP is invalid, by the parameter's reading. R320 of 45_system.md gives a predicate on the state; the three readings, and
what the unstated one sees, are the model's choice (DESIGN CHOICE, log entry 13). -/
def SleepInvalid (s : State) : Prop :=
  (s.cfg.sleepRule = .whenMasked ∧ (s.sr.bl = true ∨ s.sr.ipl = 0#2)) ∨
  (s.cfg.sleepRule = .unstated ∧ Config.sleepInvalid s.sleepView = true)

/-- The saved PC of a general fault, by `FAULT_SPC` (60_exceptions.md R412). -/
def FaultPc (s : State) (ret : Word) : Prop :=
  (s.cfg.faultSpc = .faulting → ret = s.pc) ∧ (s.cfg.faultSpc = .following → ret = s.pc + 2#32) ∧
    (ret = s.pc ∨ ret = s.pc + 2#32)

/-! ## Status bits that have no effect -/

/-- The state without what software in one mode could tell it from the other by: MD itself, and MD as saved in SSR
(60_exceptions.md R440). -/
def State.forgetMode (s : State) : State :=
  { s with sr := { s.sr with md := false }, ssr := s.ssr &&& 0xBFFFFFFF#32 }

/-- The state without the idle bits of SR, and of SR as saved in SSR: S, P, Q, R, O, bits 27:8, RB, MD and bit 31
(10_state.md R33, R36, R39; 60_exceptions.md R430, R440). T, IPL and BL are kept. -/
def State.forgetIdle (s : State) : State :=
  { s with sr := { s.sr.masks with t := s.sr.t }, ssr := s.ssr &&& 0x1000000D#32 }

/-- Outcomes that agree but for what `forget` takes away. -/
def AgreeBut (forget : State → State) : Outcome → Outcome → Prop
  | .next s, .next t => forget s = forget t
  | .fault r, .fault q => r = q
  | .refused r, .refused q => r = q
  | .next _, .fault _ | .next _, .refused _ | .fault _, .next _ | .fault _, .refused _ | .refused _, .next _
  | .refused _, .fault _ => False

/-- Every instruction runs alike in two states that agree but for the bits of SR and SSR that `forget` takes away. Left out
are the four forms that read SR or SSR as a word, where the bits are the data. The parameter of SLEEP, FLDCD and FSTCD may
read SSR as data, so for these three SSR is the same. -/
def RunsAlikeBut (forget : State → State) : Prop :=
  ∀ (i : Instr) (s t : State), forget s = forget t →
    (∀ n, i ≠ .movFromCtl n 2#4 ∧ i ≠ .movFromCtl n 12#4) → i ≠ .pushCtl 2#4 → i ≠ .pushCtl 12#4 →
    ((i = .sleep ∧ s.cfg.sleepRule = .unstated) ∨ (∃ n, i = .fldcd n ∨ i = .fstcd n) → s.ssr = t.ssr) →
    AgreeBut forget (exec i s) (exec i t)

end Sys2Proof.Machine
end

