-- ==== Sys2Proof/Certificates/Slice0/Obligations.lean ====
section
/-! DEFINITION. The statements about the model, from the numbered rules of spec/. -/

open Sys2Proof Sys2Proof.Machine

/-- Decoding the encoding of any instruction gives that instruction (R91, R102, R105, 30_encoding.md). -/
def Obligations.DecodeOfEncodeIsTheInstruction : Prop :=
  ∀ i : Instr, decodeWord (encode i) = .ok i ∧
    ∀ rest : List Byte, decodeBytes (encodeBytes i ++ rest) = .ok (i, rest)

/-- A word that decodes is the encoding of what it decodes to (R91, 30_encoding.md). -/
def Obligations.EncodeOfDecodeIsTheWord : Prop :=
  ∀ (w : Half) (i : Instr), decodeWord w = .ok i → encode i = w

/-- A few words written out from the encoding rules decode to their instructions (R91, R121, R172, R193, R223, R246,
R320, R325, R355). -/
def Obligations.DecodedSampleWords : Prop :=
  decodeWord 0x0043#16 = .ok (.movbStore 4#4 3#4) ∧ decodeWord 0x1043#16 = .ok (.addReg 4#4 3#4) ∧
  decodeWord 0x2005#16 = .ok (.braDisp 5#8) ∧ decodeWord 0x3020#16 = .ok .sleep ∧
  decodeWord 0x3653#16 = .ok (.trap 5#4) ∧ decodeWord 0x4834#16 = .ok (.movToCtl 3#4 4#4) ∧
  decodeWord 0x5643#16 = .ok (.muls 4#4 3#4) ∧ decodeWord 0x8243#16 = .ok (.movlStoreDisp8 4#4 3#4) ∧
  decodeWord 0x9043#16 = .ok (.fmovsStore 4#4 3#4) ∧ decodeWord 0xA123#16 = .ok (.ldiz12 0x123#12) ∧
  decodeWord 0xC4FF#16 = .ok (.addImm 4#4 0xFF#8) ∧ decodeWord 0xD405#16 = .ok (.movImm 4#4 5#8)

/-- A step that fetches a reserved word stops with a fault naming the word and its address; every other word is an
instruction (R104, R105). -/
def Obligations.ReservedWordsStopNamingWordAndAddress : Prop :=
  (∀ (s : State) (w : Half), Fetches s w → ReservedWord s.cfg w →
    (∃ why, step s = .fault (.reservedWord w why s.pc)) ∨ step s = .fault (.reservedOperand w s.pc) ∨
      step s = .fault (.partAbsent w s.pc)) ∧
  (∀ (cfg : Config) (w : Half), ¬ ReservedWord cfg w → ∃ i, decodeWord w = .ok i ∧ Instr.present cfg i = true)

/-- When the bytes at pc decode to an instruction, the step is that instruction run at that state (R62, R422, R75). -/
def Obligations.StepRunsTheDecodedInstruction : Prop :=
  ∀ (s : State) (w : Half) (i : Instr), Fetches s w → decodeWord w = .ok i →
    (∃ t, step s = exec i t ∧ t.pc = s.pc ∧ t.sr = s.sr ∧
      Frame s.present t [] [] [] [] (accessAddrs s.pc 2)) ∧
    ((∀ a ∈ accessAddrs s.pc 2, s.isDevice a = false) → step s = exec i s.present)

/-- The checks of an instruction fetch, in their order, and the exception a failing fetch takes (R65). -/
def Obligations.FetchChecksAndFetchFaults : Prop :=
  (∀ s : State,
    (s.pc.getLsbD 0 = true → s.fetch = .error 0x800B#16) ∧
    (s.pc.getLsbD 0 = false → ¬ Mapped s s.pc 2 → s.fetch = .error 0x8000#16) ∧
    (s.pc.getLsbD 0 = false → Mapped s s.pc 2 → ¬ Allows Region.exec s s.pc 2 → s.fetch = .error 0x8003#16) ∧
    (Fetchable s → ∃ t, s.fetch = .ok (s.readByte s.pc 1 ++ s.readByte s.pc 0, t))) ∧
  (∀ (s : State) (code : Half), Awake s → s.present.fetch = .error code → s.sr.bl = false →
    s.cfg.faultSpc = .faulting → ∃ t, step s = .next t ∧ Entered s.present t code 0x08#32 s.pc) ∧
  (∀ (s : State) (code : Half), Awake s → s.present.fetch = .error code → step s = s.present.raise code)

/-- An enabled pending interrupt of the highest class is taken before the next instruction, asleep or awake (R421). -/
def Obligations.InterruptAcceptanceAndPriority : Prop :=
  ∀ s : State,
    ((∃ src, Candidate s.present src) →
      ∃ src code t, Candidate s.present src ∧
        (∀ other, Candidate s.present other → irqRank (irqClass s.cfg other) ≤ irqRank (irqClass s.cfg src)) ∧
        (src, code) ∈ [(IrqSource.general, 0xC000#16), (.timer, 0xC001#16), (.uart, 0xC002#16), (.spi, 0xC003#16)] ∧
        step s = .next t ∧ Entered s.present t code 0x10#32 s.pc) ∧
    ((∀ src, ¬ Candidate s.present src) → s.sleeping = false → step s = runInstruction exec s.present) ∧
    ((∀ src, ¬ Candidate s.present src) → s.sleeping = true → step s = .next s.present)

/-- Every step keeps memory canonical and free of device bytes (R60, R64, R72, 20_memory.md). -/
def Obligations.InvariantKeptByEveryStep : Prop :=
  ∀ s t : State, s.inv = true → step s = .next t → t.inv = true

/-- The reset state has the invariant (R53, R452). -/
def Obligations.InvariantAtReset : Prop :=
  State.reset.inv = true ∧ ∀ s : State, s.inv = true → s.resetFrom.inv = true

/-- The reset event sets VBR, SR.BL, RB, MD, sleeping and pc; keeping the rest is the model's choice (log entries 3 to
6, 8) (R450, 70_reset_and_hazards.md). -/
def Obligations.ResetEvent : Prop :=
  ∀ s : State, s.resetFrom.vbr = s.cfg.resetVbr ∧ s.resetFrom.pc = s.cfg.resetVbr ∧
    s.resetFrom.sr.toWord = s.sr.toWord ||| 0x70000000#32 ∧ s.resetFrom.sleeping = false ∧
    (∀ n, s.resetFrom.reg n = s.reg n) ∧ (∀ n, s.resetFrom.freg n = s.freg n) ∧
    (∀ c, c ≠ 0#4 → c ≠ 2#4 → c ≠ 3#4 → s.resetFrom.creg c = s.creg c) ∧ s.resetFrom.mem = s.mem

/-- What a general fault and a software interrupt save, set and leave, and that neither is taken while SR.BL = 1
(R410, R413, R423). -/
def Obligations.TakingAnException : Prop :=
  ∀ (s : State) (code : Half),
    (s.sr.bl = false →
      (∃ t ret, s.raise code = .next t ∧ Entered s t code 0x08#32 ret ∧ FaultPc s ret) ∧
      ∃ t, s.softInterrupt code = .next t ∧ Entered s t code 0x10#32 (s.pc + 2#32)) ∧
    (s.sr.bl = true →
      s.raise code = .fault (.exceptionWhileBlocked code s.pc) ∧
      s.softInterrupt code = .fault (.exceptionWhileBlocked code s.pc) ∧ s.acceptIrq = none) ∧
    ∀ off ret, Entered s (s.trapEntry code off ret) code off ret

/-- BREAK takes the General Fault exception with code 0x8004 (R321). -/
def Obligations.Break : Prop :=
  ∀ s : State, IsWord (nibbles 0x3#4 0x0#4 0x3#4 0x0#4) .breakpoint ∧ exec .breakpoint s = s.raise 0x8004#16 ∧
    (s.sr.bl = false → s.cfg.faultSpc = .faulting →
      ∃ t, exec .breakpoint s = .next t ∧ Entered s t 0x8004#16 0x08#32 s.pc)

/-- TRAP #imm4u takes the software interrupt with code 0xC080 + imm (R322). -/
def Obligations.Trap : Prop :=
  ∀ (s : State) (j : BitVec 4), IsWord (nibbles 0x3#4 0x6#4 j 0x3#4) (.trap j) ∧
    (s.sr.bl = false → ∃ t, exec (.trap j) s = .next t ∧
      Entered s t (BitVec.ofNat 16 (0xC080 + j.toNat)) 0x10#32 (s.pc + 2#32)) ∧
    (s.sr.bl = true →
      exec (.trap j) s = .fault (.exceptionWhileBlocked (BitVec.ofNat 16 (0xC080 + j.toNat)) s.pc))

/-- RTE restores PC, SP and SR, and clears RB (R323). -/
def Obligations.ReturnFromException : Prop :=
  ∀ s : State, IsWord (nibbles 0x3#4 0x0#4 0xC#4 0x0#4) .rte ∧ ∃ t, exec .rte s = .next t ∧
    t.pc = s.spc ∧ t.reg sp = s.ssp ∧ t.sr.toWord = s.ssr &&& 0xDFFFFFFF#32 ∧ Frame s t [sp] [] [] [] []

/-- SLEEP sleeps, or is invalid by the model's readings of sleep_invalid (its choice, log entry 13); a sleeping core
waits, and an interrupt wakes it (R320, R410, R421, 45_system.md). -/
def Obligations.SleepAndWake : Prop :=
  ∀ s : State, IsWord (nibbles 0x3#4 0x0#4 0x2#4 0x0#4) .sleep ∧
    (¬ SleepInvalid s → ∃ t, exec .sleep s = .next t ∧
      t.sleeping = true ∧ t.sr = s.sr ∧ t.pc = s.pc + 2#32 ∧ Frame { s with sleeping := true } t [] [] [] [] []) ∧
    (SleepInvalid s → exec .sleep s = s.raise 0x8005#16) ∧
    (s.sleeping = true →
      ((∀ src, ¬ Candidate s.present src) → step s = .next s.present) ∧
      ((∃ src, Candidate s.present src) → ∃ src code t, Candidate s.present src ∧
        (src, code) ∈ [(IrqSource.general, 0xC000#16), (.timer, 0xC001#16), (.uart, 0xC002#16), (.spi, 0xC003#16)] ∧
        step s = .next t ∧ t.sleeping = false ∧ t.spc = s.pc ∧ Entered s.present t code 0x10#32 s.pc))

/-- The bits of SR as a word, and which register each control-register number names (R31, R39). -/
def Obligations.StatusWordAndControlRegisterNumbers : Prop :=
  (∀ w : Word, (StatusReg.ofWord w).toWord = w) ∧
  (∀ r : StatusReg, StatusReg.ofWord r.toWord = r ∧
    r.toWord.getLsbD 0 = r.t ∧ r.toWord.getLsbD 1 = r.s ∧ r.toWord.extractLsb' 2 2 = r.ipl ∧
    r.toWord.extractLsb' 8 20 = r.mid ∧ r.toWord.getLsbD 28 = r.bl ∧ r.toWord.getLsbD 29 = r.rb ∧
    r.toWord.getLsbD 30 = r.md ∧ r.toWord.getLsbD 31 = r.top) ∧
  (∀ s : State, s.creg 0#4 = some (s.pc + 2#32) ∧ s.creg 1#4 = some s.lr ∧ s.creg 2#4 = some s.sr.toWord ∧
    s.creg 3#4 = some s.vbr ∧ s.creg 4#4 = some s.spc ∧ s.creg 5#4 = some s.ssp ∧ s.creg 6#4 = some s.gbr ∧
    s.creg 7#4 = some s.tbr ∧ s.creg 11#4 = some s.exsr ∧ s.creg 12#4 = some s.ssr ∧
    ∀ c ∈ [8#4, 9#4, 10#4, 13#4, 14#4, 15#4], s.creg c = none)

/-- MOV Rm, Cn and MOV Cm, Rn for every control-register number (R325, R326). -/
def Obligations.ControlRegisterMoves : Prop :=
  ∀ (s : State) (n m : BitVec 4),
    IsWord (nibbles 0x4#4 0x8#4 n m) (.movToCtl n m) ∧
    (n ∉ [0#4, 8#4, 9#4, 10#4, 13#4, 14#4, 15#4] → ∃ t, exec (.movToCtl n m) s = .next t ∧
      t.creg n = some (s.reg m) ∧ (n ≠ 2#4 → t.sr = s.sr) ∧ t.pc = s.pc + 2#32 ∧ Frame s t [] [] [n] [] []) ∧
    (n ∈ [0#4, 8#4, 9#4, 10#4, 13#4, 14#4, 15#4] → StopsReserved s (.movToCtl n m) (nibbles 0x4#4 0x8#4 n m)) ∧
    IsWord (nibbles 0x4#4 0x9#4 n m) (.movFromCtl n m) ∧
    (m ∉ [8#4, 9#4, 10#4, 13#4, 14#4, 15#4] → ∃ t v, exec (.movFromCtl n m) s = .next t ∧
      s.creg m = some v ∧ t.reg n = v ∧ t.sr = s.sr ∧ t.pc = s.pc + 2#32 ∧ Frame s t [n] [] [] [] []) ∧
    (m ∈ [8#4, 9#4, 10#4, 13#4, 14#4, 15#4] → StopsReserved s (.movFromCtl n m) (nibbles 0x4#4 0x9#4 n m))

/-- MOV Rm, Sn and MOV Sm, Rn are reserved (R327, R328). -/
def Obligations.ShadowMovesStop : Prop :=
  ∀ (s : State) (n m : BitVec 4),
    StopsReserved s (.movToShadow n m) (nibbles 0x4#4 0xA#4 n m) ∧ StopsReserved s (.movFromShadow n m) (nibbles 0x4#4 0xB#4 n m)

/-- PUSH Rn and POP Rn, with R15 reserved (R144, R145). -/
def Obligations.PushAndPopOfAGeneralRegister : Prop :=
  ∀ (s : State) (n : Reg), IsWord (nibbles 0x3#4 0x1#4 n 0x8#4) (.pushReg n) ∧ IsWord (nibbles 0x3#4 0x1#4 n 0xA#4) (.popReg n) ∧
    (n ≠ sp → Pushes s (.pushReg n) (nibbles 0x3#4 0x1#4 n 0x8#4) 4 (s.reg n) ∧
    (Readable s (s.reg sp) 4 → ∃ t, exec (.popReg n) s = .next t ∧
      t.reg n = s.le32 (s.reg sp) ∧ t.reg sp = s.reg sp + 4#32 ∧ t.sr = s.sr ∧ t.pc = s.pc + 2#32 ∧
      Frame s t [n, sp] [] [] [] (accessAddrs (s.reg sp) 4)) ∧
    RaisesOnRead s (.popReg n) (s.reg sp) 4) ∧
    (n = sp → StopsReserved s (.pushReg n) (nibbles 0x3#4 0x1#4 n 0x8#4) ∧ StopsReserved s (.popReg n) (nibbles 0x3#4 0x1#4 n 0xA#4))

/-- PUSH Cn and POP Cn for every control-register number (R329, R330). -/
def Obligations.PushAndPopOfAControlRegister : Prop :=
  ∀ (s : State) (n : CReg), IsWord (nibbles 0x3#4 0x1#4 n 0x9#4) (.pushCtl n) ∧ IsWord (nibbles 0x3#4 0x1#4 n 0xB#4) (.popCtl n) ∧
    (∀ v, s.creg n = some v → Pushes s (.pushCtl n) (nibbles 0x3#4 0x1#4 n 0x9#4) 4 v) ∧
    (n ∈ [8#4, 9#4, 10#4, 13#4, 14#4, 15#4] → StopsReserved s (.pushCtl n) (nibbles 0x3#4 0x1#4 n 0x9#4)) ∧
    (n ∉ [0#4, 8#4, 9#4, 10#4, 13#4, 14#4, 15#4] →
    (Readable s (s.reg sp) 4 → ∃ t, exec (.popCtl n) s = .next t ∧
      t.creg n = some (s.le32 (s.reg sp)) ∧ t.reg sp = s.reg sp + 4#32 ∧ (n ≠ 2#4 → t.sr = s.sr) ∧ t.pc = s.pc + 2#32 ∧
      Frame s t [sp] [] [n] [] (accessAddrs (s.reg sp) 4)) ∧
    RaisesOnRead s (.popCtl n) (s.reg sp) 4) ∧
    (n ∈ [0#4, 8#4, 9#4, 10#4, 13#4, 14#4, 15#4] → StopsReserved s (.popCtl n) (nibbles 0x3#4 0x1#4 n 0xB#4))

/-- PUSH FRn and POP FRn, where the implementation has them (R379, R380). -/
def Obligations.PushAndPopOfAnFpuRegister : Prop :=
  ∀ (s : State) (n : FReg), IsWord (nibbles 0x3#4 0x8#4 n 0x2#4) (.pushFpu n) ∧ IsWord (nibbles 0x3#4 0x8#4 n 0x3#4) (.popFpu n) ∧
    (s.cfg.hasFpu = true → s.cfg.hasFpuPushPop = true →
    Pushes s (.pushFpu n) (nibbles 0x3#4 0x8#4 n 0x2#4) 8 (s.freg n) ∧
    (Readable s (s.reg sp) 8 → ∃ t, exec (.popFpu n) s = .next t ∧
      t.freg n = s.le64 (s.reg sp) ∧ t.reg sp = s.reg sp + 8#32 ∧ t.sr = s.sr ∧ t.pc = s.pc + 2#32 ∧
      Frame s t [sp] [n] [] [] (accessAddrs (s.reg sp) 8)) ∧
    RaisesOnRead s (.popFpu n) (s.reg sp) 8)

/-- MOV.B, MOV.W, MOV.L, MOVU.B, MOVU.W (Rm), Rn (R124, R129, R130, R131, R132). -/
def Obligations.LoadsThroughARegister : Prop :=
  ∀ (s : State) (n m : Reg),
    Loads s (.movubLoad n m) (nibbles 0x0#4 0x3#4 n m) n (s.eaReg m) 1
      ((s.le8 (s.eaReg m)).setWidth 32) [0x8000#16, 0x8001#16] ∧
    Loads s (.movbLoad n m) (nibbles 0x0#4 0x8#4 n m) n (s.eaReg m) 1
      ((s.le8 (s.eaReg m)).signExtend 32) [0x8000#16, 0x8001#16] ∧
    Loads s (.movwLoad n m) (nibbles 0x0#4 0x9#4 n m) n (s.eaReg m) 2
      ((s.le16 (s.eaReg m)).signExtend 32) [0x8009#16, 0x8000#16, 0x8001#16] ∧
    Loads s (.movlLoad n m) (nibbles 0x0#4 0xA#4 n m) n (s.eaReg m) 4
      (s.le32 (s.eaReg m)) [0x8009#16, 0x8000#16, 0x8001#16] ∧
    Loads s (.movuwLoad n m) (nibbles 0x0#4 0xB#4 n m) n (s.eaReg m) 2
      ((s.le16 (s.eaReg m)).setWidth 32) [0x8009#16, 0x8000#16, 0x8001#16]

/-- MOV.B, MOV.W, MOV.L, MOVU.B, MOVU.W (Rm, DLR), Rn (R128, R133, R134, R135, R136). -/
def Obligations.LoadsIndexedByDlr : Prop :=
  ∀ (s : State) (n m : Reg),
    Loads s (.movubLoadDlr n m) (nibbles 0x0#4 0x7#4 n m) n (s.eaIdx 1#32 m) 1
      ((s.le8 (s.eaIdx 1#32 m)).setWidth 32) [0x8000#16, 0x8001#16] ∧
    Loads s (.movbLoadDlr n m) (nibbles 0x0#4 0xC#4 n m) n (s.eaIdx 1#32 m) 1
      ((s.le8 (s.eaIdx 1#32 m)).signExtend 32) [0x8000#16, 0x8001#16] ∧
    Loads s (.movwLoadDlr n m) (nibbles 0x0#4 0xD#4 n m) n (s.eaIdx 2#32 m) 2
      ((s.le16 (s.eaIdx 2#32 m)).signExtend 32) [0x8009#16, 0x8000#16, 0x8001#16] ∧
    Loads s (.movlLoadDlr n m) (nibbles 0x0#4 0xE#4 n m) n (s.eaIdx 4#32 m) 4
      (s.le32 (s.eaIdx 4#32 m)) [0x8009#16, 0x8000#16, 0x8001#16] ∧
    Loads s (.movuwLoadDlr n m) (nibbles 0x0#4 0xF#4 n m) n (s.eaIdx 2#32 m) 2
      ((s.le16 (s.eaIdx 2#32 m)).setWidth 32) [0x8009#16, 0x8000#16, 0x8001#16]

/-- MOVU.W, MOV.L, MOV.W (SP, disp4u), Rn (R137, R140, R141). -/
def Obligations.LoadsRelativeToSp : Prop :=
  ∀ (s : State) (n : Reg) (d : BitVec 4),
    Loads s (.movuwLoadSp n d) (nibbles 0x2#4 0x7#4 n d) n (s.eaSp 2#32 d) 2
      ((s.le16 (s.eaSp 2#32 d)).setWidth 32) [0x8009#16, 0x8000#16, 0x8001#16] ∧
    Loads s (.movlLoadSp n d) (nibbles 0x2#4 0xA#4 n d) n (s.eaSp 4#32 d) 4
      (s.le32 (s.eaSp 4#32 d)) [0x8009#16, 0x8000#16, 0x8001#16] ∧
    Loads s (.movwLoadSp n d) (nibbles 0x2#4 0xB#4 n d) n (s.eaSp 2#32 d) 2
      ((s.le16 (s.eaSp 2#32 d)).signExtend 32) [0x8009#16, 0x8000#16, 0x8001#16]

/-- MOV.L (Rm, disp), Rn for disp = 4, 8, .., 28 (R143). -/
def Obligations.LoadsWithASmallDisplacement : Prop :=
  ∀ (s : State) (n m : Reg),
    Loads s (.movlLoadDisp4 n m) (nibbles 0x8#4 0x9#4 n m) n (s.eaDsp m 1#32) 4
      (s.le32 (s.eaDsp m 1#32)) [0x8009#16, 0x8000#16, 0x8001#16] ∧
    Loads s (.movlLoadDisp8 n m) (nibbles 0x8#4 0xA#4 n m) n (s.eaDsp m 2#32) 4
      (s.le32 (s.eaDsp m 2#32)) [0x8009#16, 0x8000#16, 0x8001#16] ∧
    Loads s (.movlLoadDisp12 n m) (nibbles 0x8#4 0xB#4 n m) n (s.eaDsp m 3#32) 4
      (s.le32 (s.eaDsp m 3#32)) [0x8009#16, 0x8000#16, 0x8001#16] ∧
    Loads s (.movlLoadDisp16 n m) (nibbles 0x8#4 0xC#4 n m) n (s.eaDsp m 4#32) 4
      (s.le32 (s.eaDsp m 4#32)) [0x8009#16, 0x8000#16, 0x8001#16] ∧
    Loads s (.movlLoadDisp20 n m) (nibbles 0x8#4 0xD#4 n m) n (s.eaDsp m 5#32) 4
      (s.le32 (s.eaDsp m 5#32)) [0x8009#16, 0x8000#16, 0x8001#16] ∧
    Loads s (.movlLoadDisp24 n m) (nibbles 0x8#4 0xE#4 n m) n (s.eaDsp m 6#32) 4
      (s.le32 (s.eaDsp m 6#32)) [0x8009#16, 0x8000#16, 0x8001#16] ∧
    Loads s (.movlLoadDisp28 n m) (nibbles 0x8#4 0xF#4 n m) n (s.eaDsp m 7#32) 4
      (s.le32 (s.eaDsp m 7#32)) [0x8009#16, 0x8000#16, 0x8001#16] ∧
    ∃ r, decodeWord (nibbles 0x8#4 0x8#4 n m) = .error r

/-- MOV.B, MOV.W, MOV.L Rm, (Rn) (R121, R122, R123). -/
def Obligations.StoresThroughARegister : Prop :=
  ∀ (s : State) (n m : Reg),
    Stores s (.movbStore n m) (nibbles 0x0#4 0x0#4 n m) (s.eaReg n) 1
      (s.reg m) [0x8000#16, 0x8002#16] ∧
    Stores s (.movwStore n m) (nibbles 0x0#4 0x1#4 n m) (s.eaReg n) 2
      (s.reg m) [0x800A#16, 0x8000#16, 0x8002#16] ∧
    Stores s (.movlStore n m) (nibbles 0x0#4 0x2#4 n m) (s.eaReg n) 4
      (s.reg m) [0x800A#16, 0x8000#16, 0x8002#16]

/-- MOV.B, MOV.W, MOV.L Rm, (Rn, DLR) (R125, R126, R127). -/
def Obligations.StoresIndexedByDlr : Prop :=
  ∀ (s : State) (n m : Reg),
    Stores s (.movbStoreDlr n m) (nibbles 0x0#4 0x4#4 n m) (s.eaIdx 1#32 n) 1
      (s.reg m) [0x8000#16, 0x8002#16] ∧
    Stores s (.movwStoreDlr n m) (nibbles 0x0#4 0x5#4 n m) (s.eaIdx 2#32 n) 2
      (s.reg m) [0x800A#16, 0x8000#16, 0x8002#16] ∧
    Stores s (.movlStoreDlr n m) (nibbles 0x0#4 0x6#4 n m) (s.eaIdx 4#32 n) 4
      (s.reg m) [0x800A#16, 0x8000#16, 0x8002#16]

/-- MOV.L and MOV.W Rn, (SP, disp4u) (R138, R139). -/
def Obligations.StoresRelativeToSp : Prop :=
  ∀ (s : State) (n : Reg) (d : BitVec 4),
    Stores s (.movlStoreSp n d) (nibbles 0x2#4 0x8#4 n d) (s.eaSp 4#32 d) 4
      (s.reg n) [0x800A#16, 0x8000#16, 0x8002#16] ∧
    Stores s (.movwStoreSp n d) (nibbles 0x2#4 0x9#4 n d) (s.eaSp 2#32 d) 2
      (s.reg n) [0x800A#16, 0x8000#16, 0x8002#16]

/-- MOV.L Rm, (Rn, disp) for disp = 4, 8, .., 28 (R142). -/
def Obligations.StoresWithASmallDisplacement : Prop :=
  ∀ (s : State) (n m : Reg),
    Stores s (.movlStoreDisp4 n m) (nibbles 0x8#4 0x1#4 n m) (s.eaDsp n 1#32) 4
      (s.reg m) [0x800A#16, 0x8000#16, 0x8002#16] ∧
    Stores s (.movlStoreDisp8 n m) (nibbles 0x8#4 0x2#4 n m) (s.eaDsp n 2#32) 4
      (s.reg m) [0x800A#16, 0x8000#16, 0x8002#16] ∧
    Stores s (.movlStoreDisp12 n m) (nibbles 0x8#4 0x3#4 n m) (s.eaDsp n 3#32) 4
      (s.reg m) [0x800A#16, 0x8000#16, 0x8002#16] ∧
    Stores s (.movlStoreDisp16 n m) (nibbles 0x8#4 0x4#4 n m) (s.eaDsp n 4#32) 4
      (s.reg m) [0x800A#16, 0x8000#16, 0x8002#16] ∧
    Stores s (.movlStoreDisp20 n m) (nibbles 0x8#4 0x5#4 n m) (s.eaDsp n 5#32) 4
      (s.reg m) [0x800A#16, 0x8000#16, 0x8002#16] ∧
    Stores s (.movlStoreDisp24 n m) (nibbles 0x8#4 0x6#4 n m) (s.eaDsp n 6#32) 4
      (s.reg m) [0x800A#16, 0x8000#16, 0x8002#16] ∧
    Stores s (.movlStoreDisp28 n m) (nibbles 0x8#4 0x7#4 n m) (s.eaDsp n 7#32) 4
      (s.reg m) [0x800A#16, 0x8000#16, 0x8002#16] ∧
    ∃ r, decodeWord (nibbles 0x8#4 0x0#4 n m) = .error r

/-- The address of every operand form, with the PC and GBR bases and the scales (R25, R103, R120, R80). -/
def Obligations.EffectiveAddresses : Prop :=
  ∀ (s : State) (size : Word) (b : Reg) (d : BitVec 4) (ddd : Word),
    s.eaReg b = s.reg b ∧
    s.eaIdx size 0#4 = s.pc + 2#32 + s.reg 0#4 ∧ s.eaIdx size 1#4 = s.gbr + s.reg 0#4 * size ∧
    (b ≠ 0#4 → b ≠ 1#4 → s.eaIdx size b = s.reg b + s.reg 0#4 * size ∧ s.eaLea size b = s.reg b + s.reg 0#4 * size) ∧
    s.eaLea size 0#4 = s.pc + 2#32 + s.reg 0#4 * size ∧ s.eaLea size 1#4 = s.gbr + s.reg 0#4 * size ∧
    s.eaSp size d = s.reg 15#4 + BitVec.ofNat 32 d.toNat * size ∧ s.eaDsp b ddd = s.reg b + ddd * 4#32

/-- LEA.B, LEA.W, LEA.L, LEA.Q (Rm, DLR), Rn (R146, R147, R148, R149). -/
def Obligations.LoadEffectiveAddress : Prop :=
  ∀ (s : State) (n m : Reg),
    WritesRegUsingDlr s (.leaB n m) (nibbles 0x4#4 0xC#4 n m) n (s.base m + s.reg 0#4 * 1#32) ∧
    WritesRegUsingDlr s (.leaW n m) (nibbles 0x4#4 0xD#4 n m) n (s.base m + s.reg 0#4 * 2#32) ∧
    WritesRegUsingDlr s (.leaL n m) (nibbles 0x4#4 0xE#4 n m) n (s.base m + s.reg 0#4 * 4#32) ∧
    WritesRegUsingDlr s (.leaQ n m) (nibbles 0x4#4 0xF#4 n m) n (s.base m + s.reg 0#4 * 8#32)

/-- MemRead: its checks in their order, and the bytes it returns (R63). -/
def Obligations.DataReadChecks : Prop :=
  ∀ (s : State) (a : Word) (k : Nat),
    (¬ AlignedOk s a k → s.memRead a k = .error 0x8009#16) ∧
    (AlignedOk s a k → ¬ Mapped s a k → s.memRead a k = .error 0x8000#16) ∧
    (AlignedOk s a k → Mapped s a k → ¬ Allows Region.read s a k → s.memRead a k = .error 0x8001#16) ∧
    (Readable s a k → ∃ bs t, s.memRead a k = .ok (bs, t) ∧ bs = (List.range k).map (s.readByte a) ∧
      (k = 1 → leWord 8 bs = s.le8 a) ∧ (k = 2 → leWord 16 bs = s.le16 a) ∧ (k = 4 → leWord 32 bs = s.le32 a) ∧
      (k = 8 → leWord 64 bs = s.le64 a) ∧ t.sr = s.sr ∧ t.pc = s.pc ∧
      Frame s t [] [] [] [] (accessAddrs a k)) ∧
    (∀ (code : Half) (t : State), s.raise code = .next t →
      (∀ n, t.reg n = s.reg n) ∧ (∀ n, t.freg n = s.freg n) ∧ ∀ b, t.mem.read b = s.mem.read b)

/-- MemWrite: its checks in their order, and the bytes it stores (R64). -/
def Obligations.DataWriteChecks : Prop :=
  ∀ (s : State) (a : Word) (k b : Nat) (v : BitVec b), k ≤ 8 →
    (¬ AlignedOk s a k → s.memWrite a k v = .error 0x800A#16) ∧
    (AlignedOk s a k → ¬ Mapped s a k → s.memWrite a k v = .error 0x8000#16) ∧
    (AlignedOk s a k → Mapped s a k → ¬ Allows Region.write s a k → s.memWrite a k v = .error 0x8002#16) ∧
    (Writable s a k → ∃ t, s.memWrite a k v = .ok t ∧ Stored s t a k v ∧ t.sr = s.sr ∧ t.pc = s.pc ∧
      Frame s t [] [] [] (accessAddrs a k) (accessAddrs a k)) ∧
    (∀ (code : Half) (t : State), s.raise code = .next t → ∀ x, t.mem.read x = s.mem.read x)

/-- A value stored in memory reads back whole and in its parts, little-endian (R61). -/
def Obligations.LittleEndianStoreThenLoad : Prop :=
  ∀ (s t : State) (a : Word),
    (∀ v : Byte, (∀ x ∈ accessAddrs a 1, s.isDevice x = false) → s.memWrite a 1 v = .ok t → t.le8 a = v) ∧
    (∀ v : Half, (∀ x ∈ accessAddrs a 2, s.isDevice x = false) → s.memWrite a 2 v = .ok t →
      t.le16 a = v ∧ ∀ i < 2, t.le8 (a + BitVec.ofNat 32 i) = v.extractLsb' (8 * i) 8) ∧
    (∀ v : Word, (∀ x ∈ accessAddrs a 4, s.isDevice x = false) → s.memWrite a 4 v = .ok t →
      t.le32 a = v ∧ (∀ i ≤ 2, t.le16 (a + BitVec.ofNat 32 i) = v.extractLsb' (8 * i) 16) ∧
      ∀ i < 4, t.le8 (a + BitVec.ofNat 32 i) = v.extractLsb' (8 * i) 8) ∧
    (∀ v : DWord, (∀ x ∈ accessAddrs a 8, s.isDevice x = false) → s.memWrite a 8 v = .ok t →
      t.le64 a = v ∧ (∀ i ≤ 4, t.le32 (a + BitVec.ofNat 32 i) = v.extractLsb' (8 * i) 32) ∧
      (∀ i ≤ 6, t.le16 (a + BitVec.ofNat 32 i) = v.extractLsb' (8 * i) 16) ∧
      ∀ i < 8, t.le8 (a + BitVec.ofNat 32 i) = v.extractLsb' (8 * i) 8)

/-- ADD, SUB, AND, OR, XOR, MOV of two registers; ADD and MOV of an 8-bit immediate (R172, R173, R177, R178, R179,
R180, R192, R193). -/
def Obligations.RegisterArithmeticAndLogic : Prop :=
  ∀ (s : State) (n m : Reg) (i : BitVec 8),
    WritesReg s (.addReg n m) (nibbles 0x1#4 0x0#4 n m) n (s.reg n + s.reg m) ∧
    WritesReg s (.subReg n m) (nibbles 0x1#4 0x1#4 n m) n (s.reg n - s.reg m) ∧
    WritesReg s (.andReg n m) (nibbles 0x1#4 0x5#4 n m) n (s.reg n &&& s.reg m) ∧
    WritesReg s (.orReg n m) (nibbles 0x1#4 0x6#4 n m) n (s.reg n ||| s.reg m) ∧
    WritesReg s (.xorReg n m) (nibbles 0x1#4 0x7#4 n m) n (s.reg n ^^^ s.reg m) ∧
    WritesReg s (.movReg n m) (nibbles 0x1#4 0x8#4 n m) n (s.reg m) ∧
    WritesReg s (.addImm n i) (nibbles 0xC#4 n (high4 i) (low4 i)) n (s.reg n + BitVec.ofInt 32 i.toInt) ∧
    WritesReg s (.movImm n i) (nibbles 0xD#4 n (high4 i) (low4 i)) n (BitVec.ofInt 32 i.toInt)

/-- ADC, SBB and NEGC as exact sums and differences with T as carry and borrow (R174, R175, R273). -/
def Obligations.CarryAndBorrow : Prop :=
  ∀ (s : State) (n m : Reg),
    (∃ v c, WritesRegT s (.adcReg n m) (nibbles 0x1#4 0x2#4 n m) n v c ∧
      v.toNat + 4294967296 * c.toNat = (s.reg n).toNat + (s.reg m).toNat + s.sr.t.toNat) ∧
    (∃ v c, WritesRegT s (.sbbReg n m) (nibbles 0x1#4 0x3#4 n m) n v c ∧
      v.toNat + (s.reg m).toNat + s.sr.t.toNat = (s.reg n).toNat + 4294967296 * c.toNat) ∧
    (∃ v c, WritesRegT s (.negcReg n) (nibbles 0x3#4 0x3#4 n 0x2#4) n v c ∧
      v.toNat + (s.reg n).toNat + s.sr.t.toNat = 4294967296 * c.toNat)

/-- TST, CMPEQ, CMPHI, CMPGT, CMPGE, CMPPL, CMPPZ write the stated relation to T (R176, R181, R182, R183, R184, R185,
R186, R187, R188, R189). -/
def Obligations.Compares : Prop :=
  ∀ (s : State) (n m : Reg) (j : BitVec 4),
    WritesT s (.tstReg n m) (nibbles 0x1#4 0x4#4 n m) (decide (s.reg m &&& s.reg n = 0#32)) ∧
    WritesT s (.cmpeqReg n m) (nibbles 0x1#4 0xC#4 n m) (decide (s.reg n = s.reg m)) ∧
    WritesT s (.cmphiReg n m) (nibbles 0x1#4 0xD#4 n m) (decide ((s.reg m).toNat < (s.reg n).toNat)) ∧
    WritesT s (.cmpgtReg n m) (nibbles 0x1#4 0xE#4 n m) (decide ((s.reg m).toInt < (s.reg n).toInt)) ∧
    WritesT s (.cmpeqImmU n j) (nibbles 0x2#4 0xC#4 n j) (decide ((s.reg n).toNat = j.toNat)) ∧
    WritesT s (.cmpeqImmN n j) (nibbles 0x2#4 0xD#4 n j) (decide ((s.reg n).toInt = (j.toNat : Int) - 16)) ∧
    WritesT s (.cmpgtImm n j) (nibbles 0x2#4 0xE#4 n j) (decide ((j.toNat : Int) < (s.reg n).toInt)) ∧
    WritesT s (.cmpgeImm n j) (nibbles 0x2#4 0xF#4 n j) (decide ((j.toNat : Int) ≤ (s.reg n).toInt)) ∧
    WritesT s (.cmppl n) (nibbles 0x3#4 0x1#4 n 0xC#4) (decide (0 < (s.reg n).toInt)) ∧
    WritesT s (.cmppz n) (nibbles 0x3#4 0x1#4 n 0xD#4) (decide (0 ≤ (s.reg n).toInt))

/-- CMPHS DLR, Rn and CMPGE DLR, Rn (R190, R191). -/
def Obligations.ComparesWithDlr : Prop :=
  ∀ (s : State) (n : Reg),
    (IsWord (nibbles 0x3#4 0x6#4 n 0xD#4) (.cmphsDlr n) ∧ ∃ t, exec (.cmphsDlr n) s = .next t ∧
      t.sr = { s.sr with t := decide ((s.reg 0#4).toNat ≤ (s.reg n).toNat) } ∧
      DlrClobbered s t none ∧ t.pc = s.pc + 2#32 ∧ Frame s t [dlr] [] [] [] []) ∧
    (IsWord (nibbles 0x3#4 0x6#4 n 0xE#4) (.cmpgeDlr n) ∧ ∃ t, exec (.cmpgeDlr n) s = .next t ∧
      t.sr = { s.sr with t := decide ((s.reg 0#4).toInt ≤ (s.reg n).toInt) } ∧
      DlrClobbered s t none ∧ t.pc = s.pc + 2#32 ∧ Frame s t [dlr] [] [] [] [])

/-- MULS and MULU leave the exact 64-bit product in R1:R0 (R200, R201). -/
def Obligations.Multiplies : Prop :=
  ∀ (s : State) (n m : Reg),
    (IsWord (nibbles 0x5#4 0x6#4 n m) (.muls n m) ∧ ∃ t, exec (.muls n m) s = .next t ∧
      (t.reg 1#4 ++ t.reg 0#4).toInt = (s.reg m).toInt * (s.reg n).toInt ∧
      t.sr = s.sr ∧ t.pc = s.pc + 2#32 ∧ Frame s t [0#4, 1#4] [] [] [] []) ∧
    (IsWord (nibbles 0x5#4 0x7#4 n m) (.mulu n m) ∧ ∃ t, exec (.mulu n m) s = .next t ∧
      (t.reg 1#4 ++ t.reg 0#4).toNat = (s.reg m).toNat * (s.reg n).toNat ∧
      t.sr = s.sr ∧ t.pc = s.pc + 2#32 ∧ Frame s t [0#4, 1#4] [] [] [] [])

/-- ADD, SUB, AND, OR, XOR Rm, DLR, Rn (R202, R203, R204, R205, R206). -/
def Obligations.ThreeOperandForms : Prop :=
  ∀ (s : State) (n m : Reg),
    WritesRegUsingDlr s (.addDlr n m) (nibbles 0x5#4 0x8#4 n m) n (s.reg m + s.reg 0#4) ∧
    WritesRegUsingDlr s (.subDlr n m) (nibbles 0x5#4 0x9#4 n m) n (s.reg m - s.reg 0#4) ∧
    WritesRegUsingDlr s (.andDlr n m) (nibbles 0x5#4 0xD#4 n m) n (s.reg m &&& s.reg 0#4) ∧
    WritesRegUsingDlr s (.orDlr n m) (nibbles 0x5#4 0xE#4 n m) n (s.reg m ||| s.reg 0#4) ∧
    WritesRegUsingDlr s (.xorDlr n m) (nibbles 0x5#4 0xF#4 n m) n (s.reg m ^^^ s.reg 0#4)

/-- BRA, BSR, BT, BF (PC, disp8s) (R223, R224, R225, R226). -/
def Obligations.DisplacementBranches : Prop :=
  ∀ (s : State) (d : BitVec 8),
    Branches s (.braDisp d) (nibbles 0x2#4 0x0#4 (high4 d) (low4 d))
      (s.pc + 2#32 + BitVec.ofInt 32 (2 * d.toInt)) s.lr ∧
    Branches s (.bsrDisp d) (nibbles 0x2#4 0x1#4 (high4 d) (low4 d))
      (s.pc + 2#32 + BitVec.ofInt 32 (2 * d.toInt)) (s.pc + 2#32) ∧
    Branches s (.btDisp d) (nibbles 0x2#4 0x2#4 (high4 d) (low4 d))
      (if s.sr.t = true then s.pc + 2#32 + BitVec.ofInt 32 (2 * d.toInt) else s.pc + 2#32) s.lr ∧
    Branches s (.bfDisp d) (nibbles 0x2#4 0x3#4 (high4 d) (low4 d))
      (if s.sr.t = false then s.pc + 2#32 + BitVec.ofInt 32 (2 * d.toInt) else s.pc + 2#32) s.lr

/-- BRA, BSR, BT, BF Rn and RTS (R227, R228, R229, R230, R231). -/
def Obligations.RegisterBranchesAndReturn : Prop :=
  ∀ (s : State) (n : Reg),
    Branches s (.braReg n) (nibbles 0x3#4 0x2#4 n 0x0#4) (s.reg n) s.lr ∧
    Branches s (.bsrReg n) (nibbles 0x3#4 0x2#4 n 0x1#4) (s.reg n) (s.pc + 2#32) ∧
    Branches s (.btReg n) (nibbles 0x3#4 0x2#4 n 0x2#4) (if s.sr.t = true then s.reg n else s.pc + 2#32) s.lr ∧
    Branches s (.bfReg n) (nibbles 0x3#4 0x2#4 n 0x3#4) (if s.sr.t = false then s.reg n else s.pc + 2#32) s.lr ∧
    Branches s .rts (nibbles 0x3#4 0x0#4 0x1#4 0x0#4) s.lr s.lr

/-- LDIZ, LDIN (8 and 12 bits), LDISH, LDISH16 (R241, R242, R243, R244, R245, R246, R247). -/
def Obligations.DlrImmediates : Prop :=
  ∀ (s : State) (j : BitVec 8) (k : BitVec 12),
    WritesReg s (.ldiz8 j) (nibbles 0x2#4 0x4#4 (high4 j) (low4 j)) 0#4 (BitVec.ofNat 32 j.toNat) ∧
    WritesReg s (.ldin8 j) (nibbles 0x2#4 0x5#4 (high4 j) (low4 j)) 0#4 (0xFFFFFF#24 ++ j) ∧
    WritesReg s (.ldish j) (nibbles 0x2#4 0x6#4 (high4 j) (low4 j)) 0#4 ((s.reg 0#4).extractLsb' 0 24 ++ j) ∧
    WritesReg s .ldish16Zero (nibbles 0x3#4 0x0#4 0xA#4 0x0#4) 0#4 ((s.reg 0#4).extractLsb' 0 16 ++ 0x0000#16) ∧
    WritesReg s .ldish16Ones (nibbles 0x3#4 0x0#4 0xB#4 0x0#4) 0#4 ((s.reg 0#4).extractLsb' 0 16 ++ 0xFFFF#16) ∧
    WritesReg s (.ldiz12 k) (nibbles 0xA#4 (top4 k) (mid4 k) (low4 k)) 0#4 (BitVec.ofNat 32 k.toNat) ∧
    WritesReg s (.ldin12 k) (nibbles 0xB#4 (top4 k) (mid4 k) (low4 k)) 0#4 (0xFFFFF#20 ++ k)

/-- CLRT, SETT, CLRS, SETS, NOTT, NOTS and NOP (R261, R262, R263, R264, R265, R266, R232). -/
def Obligations.FlagOperationsAndNop : Prop :=
  ∀ s : State,
    WritesSr s .clrt (nibbles 0x3#4 0x0#4 0x4#4 0x0#4) { s.sr with t := false } ∧
    WritesSr s .sett (nibbles 0x3#4 0x0#4 0x5#4 0x0#4) { s.sr with t := true } ∧
    WritesSr s .clrs (nibbles 0x3#4 0x0#4 0x6#4 0x0#4) { s.sr with s := false } ∧
    WritesSr s .sets (nibbles 0x3#4 0x0#4 0x7#4 0x0#4) { s.sr with s := true } ∧
    WritesSr s .nott (nibbles 0x3#4 0x0#4 0x8#4 0x0#4) { s.sr with t := !s.sr.t } ∧
    WritesSr s .nots (nibbles 0x3#4 0x0#4 0x9#4 0x0#4) { s.sr with s := !s.sr.s } ∧
    WritesSr s .nop (nibbles 0x3#4 0x0#4 0x0#4 0x0#4) s.sr

/-- EXTU.B, EXTU.W, EXTS.B, EXTS.W, SWAP.B, SWAP.W, SWAP.LB (R267, R268, R269, R270, R302, R303, R304). -/
def Obligations.ExtensionsAndSwaps : Prop :=
  ∀ (s : State) (n : Reg),
    WritesReg s (.extuB n) (nibbles 0x3#4 0x2#4 n 0x4#4) n (BitVec.ofNat 32 ((s.reg n).toNat % 256)) ∧
    WritesReg s (.extuW n) (nibbles 0x3#4 0x2#4 n 0x5#4) n (BitVec.ofNat 32 ((s.reg n).toNat % 65536)) ∧
    WritesReg s (.extsB n) (nibbles 0x3#4 0x2#4 n 0x6#4) n (BitVec.ofInt 32 ((s.reg n).setWidth 8).toInt) ∧
    WritesReg s (.extsW n) (nibbles 0x3#4 0x2#4 n 0x7#4) n (BitVec.ofInt 32 ((s.reg n).setWidth 16).toInt) ∧
    WritesReg s (.swapB n) (nibbles 0x3#4 0x7#4 n 0x0#4) n ((s.reg n).extractLsb' 16 8 ++ (s.reg n).extractLsb' 24 8 ++ (s.reg n).extractLsb' 0 8 ++ (s.reg n).extractLsb' 8 8) ∧
    WritesReg s (.swapW n) (nibbles 0x3#4 0x7#4 n 0x1#4) n ((s.reg n).extractLsb' 0 16 ++ (s.reg n).extractLsb' 16 16) ∧
    WritesReg s (.swapLb n) (nibbles 0x3#4 0x7#4 n 0x4#4) n ((s.reg n).extractLsb' 16 16 ++ (s.reg n).extractLsb' 0 8 ++ (s.reg n).extractLsb' 8 8)

/-- NOT, NEG, MOVNT, MOVT, ROTL, ROTR (R271, R272, R274, R275, R276, R301). -/
def Obligations.OneRegisterOperations : Prop :=
  ∀ (s : State) (n : Reg),
    WritesReg s (.notReg n) (nibbles 0x3#4 0x3#4 n 0x0#4) n (~~~(s.reg n)) ∧
    WritesReg s (.negReg n) (nibbles 0x3#4 0x3#4 n 0x1#4) n (0#32 - s.reg n) ∧
    WritesReg s (.movnt n) (nibbles 0x3#4 0x3#4 n 0x3#4) n (if s.sr.t = true then 0#32 else 1#32) ∧
    WritesReg s (.rotl n) (nibbles 0x3#4 0x3#4 n 0x4#4) n ((s.reg n).rotateLeft 1) ∧
    WritesReg s (.rotr n) (nibbles 0x3#4 0x3#4 n 0x5#4) n ((s.reg n).rotateRight 1) ∧
    WritesReg s (.movt n) (nibbles 0x3#4 0x6#4 n 0xF#4) n (if s.sr.t = true then 1#32 else 0#32)

/-- ROTCL, ROTCR, SHLL, SHLR, SHAR by one bit through T (R277, R278, R279, R280, R281). -/
def Obligations.ShiftsThroughT : Prop :=
  ∀ (s : State) (n : Reg),
    WritesRegT s (.rotcl n) (nibbles 0x3#4 0x3#4 n 0x6#4) n ((s.reg n).extractLsb' 0 31 ++ BitVec.ofBool s.sr.t)
      ((s.reg n).getLsbD 31) ∧
    WritesRegT s (.rotcr n) (nibbles 0x3#4 0x3#4 n 0x7#4) n (BitVec.ofBool s.sr.t ++ (s.reg n).extractLsb' 1 31)
      ((s.reg n).getLsbD 0) ∧
    WritesRegT s (.shll n) (nibbles 0x3#4 0x3#4 n 0x8#4) n ((s.reg n).extractLsb' 0 31 ++ 0#1)
      ((s.reg n).getLsbD 31) ∧
    WritesRegT s (.shlr n) (nibbles 0x3#4 0x3#4 n 0x9#4) n (0#1 ++ (s.reg n).extractLsb' 1 31)
      ((s.reg n).getLsbD 0) ∧
    WritesRegT s (.shar n) (nibbles 0x3#4 0x3#4 n 0xA#4) n (BitVec.ofBool ((s.reg n).getLsbD 31) ++ (s.reg n).extractLsb' 1 31)
      ((s.reg n).getLsbD 0)

/-- SHLL1/2/4/8/16 and SHLR1/2/4/8/16 (R282, R283, R284, R285, R286, R287, R288, R289, R294, R295). -/
def Obligations.FixedLogicalShifts : Prop :=
  ∀ (s : State) (n : Reg),
    WritesReg s (.shll1 n) (nibbles 0x3#4 0x4#4 n 0x0#4) n (BitVec.ofNat 32 ((s.reg n).toNat * 2)) ∧
    WritesReg s (.shll2 n) (nibbles 0x3#4 0x4#4 n 0x1#4) n (BitVec.ofNat 32 ((s.reg n).toNat * 4)) ∧
    WritesReg s (.shll4 n) (nibbles 0x3#4 0x4#4 n 0x2#4) n (BitVec.ofNat 32 ((s.reg n).toNat * 16)) ∧
    WritesReg s (.shll8 n) (nibbles 0x3#4 0x4#4 n 0x3#4) n (BitVec.ofNat 32 ((s.reg n).toNat * 256)) ∧
    WritesReg s (.shll16 n) (nibbles 0x3#4 0x4#4 n 0xC#4) n (BitVec.ofNat 32 ((s.reg n).toNat * 65536)) ∧
    WritesReg s (.shlr1 n) (nibbles 0x3#4 0x4#4 n 0x4#4) n (BitVec.ofNat 32 ((s.reg n).toNat / 2)) ∧
    WritesReg s (.shlr2 n) (nibbles 0x3#4 0x4#4 n 0x5#4) n (BitVec.ofNat 32 ((s.reg n).toNat / 4)) ∧
    WritesReg s (.shlr4 n) (nibbles 0x3#4 0x4#4 n 0x6#4) n (BitVec.ofNat 32 ((s.reg n).toNat / 16)) ∧
    WritesReg s (.shlr8 n) (nibbles 0x3#4 0x4#4 n 0x7#4) n (BitVec.ofNat 32 ((s.reg n).toNat / 256)) ∧
    WritesReg s (.shlr16 n) (nibbles 0x3#4 0x4#4 n 0xD#4) n (BitVec.ofNat 32 ((s.reg n).toNat / 65536))

/-- SHAR1/2/4/8/16 and SHARSX (R290, R291, R292, R293, R296, R297). -/
def Obligations.FixedArithmeticShifts : Prop :=
  ∀ (s : State) (n : Reg),
    WritesReg s (.shar1 n) (nibbles 0x3#4 0x4#4 n 0x8#4) n (BitVec.ofInt 32 ((s.reg n).toInt / 2)) ∧
    WritesReg s (.shar2 n) (nibbles 0x3#4 0x4#4 n 0x9#4) n (BitVec.ofInt 32 ((s.reg n).toInt / 4)) ∧
    WritesReg s (.shar4 n) (nibbles 0x3#4 0x4#4 n 0xA#4) n (BitVec.ofInt 32 ((s.reg n).toInt / 16)) ∧
    WritesReg s (.shar8 n) (nibbles 0x3#4 0x4#4 n 0xB#4) n (BitVec.ofInt 32 ((s.reg n).toInt / 256)) ∧
    WritesReg s (.shar16 n) (nibbles 0x3#4 0x4#4 n 0xE#4) n (BitVec.ofInt 32 ((s.reg n).toInt / 65536)) ∧
    WritesReg s (.sharsx n) (nibbles 0x3#4 0x4#4 n 0xF#4) n (if (s.reg n).toInt < 0 then 0xFFFFFFFF#32 else 0#32)

/-- SHLD and SHAD by the signed low byte of R0, modulo 32 (R298, R299, R300). -/
def Obligations.BarrelShifts : Prop :=
  ∀ (s : State) (n : Reg),
    WritesRegUsingDlr s (.shld n) (nibbles 0x3#4 0x6#4 n 0x6#4) n
      (if 0 ≤ ((s.reg 0#4).setWidth 8).toInt then
        BitVec.ofNat 32 ((s.reg n).toNat * 2 ^ (((s.reg 0#4).setWidth 8).toInt % 32).toNat)
      else BitVec.ofNat 32 ((s.reg n).toNat / 2 ^ ((-((s.reg 0#4).setWidth 8).toInt) % 32).toNat)) ∧
    WritesRegUsingDlr s (.shad n) (nibbles 0x3#4 0x6#4 n 0x7#4) n
      (if 0 ≤ ((s.reg 0#4).setWidth 8).toInt then
        BitVec.ofNat 32 ((s.reg n).toNat * 2 ^ (((s.reg 0#4).setWidth 8).toInt % 32).toNat)
      else BitVec.ofInt 32 ((s.reg n).toInt / 2 ^ ((-((s.reg 0#4).setWidth 8).toInt) % 32).toNat))

/-- FMOV.S and FMOV.D FRm, (Rn) and FRm, (Rn, DLR) (R355, R356, R357, R358). -/
def Obligations.FmovStores : Prop :=
  ∀ (s : State) (n : Reg) (m : FReg),
    FpuStores s (.fmovsStore n m) (nibbles 0x9#4 0x0#4 n m) (s.eaReg n) 4 (Config.fmovSOut (s.freg m)) [] ∧
    FpuStores s (.fmovdStore n m) (nibbles 0x9#4 0x1#4 n m) (s.eaReg n) 8 (s.freg m) [] ∧
    FpuStores s (.fmovsStoreDlr n m) (nibbles 0x9#4 0x2#4 n m) (s.eaIdx 4#32 n) 4 (Config.fmovSOut (s.freg m)) [dlr] ∧
    FpuStores s (.fmovdStoreDlr n m) (nibbles 0x9#4 0x3#4 n m) (s.eaIdx 8#32 n) 8 (s.freg m) [dlr]

/-- FMOV.S and FMOV.D (Rm), FRn and (Rm, DLR), FRn (R359, R360, R361, R362). -/
def Obligations.FmovLoads : Prop :=
  ∀ (s : State) (n : FReg) (m : Reg),
    FpuLoads s (.fmovsLoad n m) (nibbles 0x9#4 0x4#4 n m) n (s.eaReg m) 4 (Config.fmovSIn (s.le32 (s.eaReg m))) [] ∧
    FpuLoads s (.fmovdLoad n m) (nibbles 0x9#4 0x5#4 n m) n (s.eaReg m) 8 (s.le64 (s.eaReg m)) [] ∧
    FpuLoads s (.fmovsLoadDlr n m) (nibbles 0x9#4 0x6#4 n m) n (s.eaIdx 4#32 m) 4 (Config.fmovSIn (s.le32 (s.eaIdx 4#32 m))) [dlr] ∧
    FpuLoads s (.fmovdLoadDlr n m) (nibbles 0x9#4 0x7#4 n m) n (s.eaIdx 8#32 m) 8 (s.le64 (s.eaIdx 8#32 m)) [dlr]

/-- FADD, FSUB, FMUL, FCMPEQ, FCMPGT, FMOV FRm, FRn (R363, R364, R365, R366, R367, R368). -/
def Obligations.FpuArithmeticAndCompares : Prop :=
  ∀ (s : State) (n m : FReg),
    WritesFreg s (.fadd n m) (nibbles 0x9#4 0x8#4 n m) n (Config.fadd (s.freg n) (s.freg m)) ∧
    WritesFreg s (.fsub n m) (nibbles 0x9#4 0x9#4 n m) n (Config.fsub (s.freg n) (s.freg m)) ∧
    WritesFreg s (.fmul n m) (nibbles 0x9#4 0xA#4 n m) n (Config.fmul (s.freg n) (s.freg m)) ∧
    (s.cfg.hasFpu = true → WritesT s (.fcmpeq n m) (nibbles 0x9#4 0xC#4 n m) (Config.fcmpeq (s.freg n) (s.freg m))) ∧
    (s.cfg.hasFpu = true → WritesT s (.fcmpgt n m) (nibbles 0x9#4 0xD#4 n m) (Config.fcmpgt (s.freg n) (s.freg m))) ∧
    WritesFreg s (.fmovReg n m) (nibbles 0x9#4 0xE#4 n m) n (s.freg m)

/-- FLDCF, FLDCI, FLDCH, FSTCF, FSTCI, FSTCH, FNEG, FABS (R369, R371, R372, R373, R375, R376, R377, R378). -/
def Obligations.FpuConversions : Prop :=
  ∀ (s : State) (n : FReg),
    WritesFregFromDlr s (.fldcf n) (nibbles 0x9#4 0xF#4 n 0x0#4) n (Config.cvtF32In (s.reg 0#4)) ∧
    WritesFregFromDlr s (.fldci n) (nibbles 0x9#4 0xF#4 n 0x2#4) n (Config.cvtI32In (s.reg 0#4)) ∧
    WritesFregFromDlr s (.fldch n) (nibbles 0x9#4 0xF#4 n 0x3#4) n (Config.cvtF16In ((s.reg 0#4).extractLsb' 0 16)) ∧
    (s.cfg.hasFpu = true → WritesReg s (.fstcf n) (nibbles 0x9#4 0xF#4 n 0x4#4) 0#4 (Config.cvtF32Out (s.freg n))) ∧
    (s.cfg.hasFpu = true → WritesReg s (.fstci n) (nibbles 0x9#4 0xF#4 n 0x6#4) 0#4 (Config.cvtI32Out (s.freg n))) ∧
    (s.cfg.hasFpu = true → ∃ k, s.draws ≤ k ∧ (∃ t, exec (.fstch n) s = .next t ∧ k < t.draws) ∧
      WritesReg s (.fstch n) (nibbles 0x9#4 0xF#4 n 0x7#4) 0#4 (Config.freeHalf k ++ Config.cvtF16Out (s.freg n))) ∧
    WritesFreg s (.fneg n) (nibbles 0x9#4 0xF#4 n 0x8#4) n (Config.fneg (s.freg n)) ∧
    WritesFreg s (.fabs n) (nibbles 0x9#4 0xF#4 n 0x9#4) n (Config.fabs (s.freg n))

/-- FLDCD and FSTCD complete with the supplied function, and are refused where none is supplied (model's form: log
entry 18) (R370, R374, R34, R354, R44, 46_fpu.md). -/
def Obligations.SuppliedFldcdAndFstcd : Prop :=
  ∀ (s : State) (n : FReg), s.cfg.hasFpu = true →
    (s.cfg.hasFldcd = true → WritesFregFromDlr s (.fldcd n) (nibbles 0x9#4 0xF#4 n 0x1#4) n (Config.fldcd s.fpuView)) ∧
    (s.cfg.hasFldcd = false → exec (.fldcd n) s = .refused .fldcdNotSupplied) ∧
    (s.cfg.hasFstcd = true → IsWord (nibbles 0x9#4 0xF#4 n 0x5#4) (.fstcd n) ∧
      ∃ t u, exec (.fstcd n) s = .next t ∧ u = Config.fstcd (s.freg n) s.fpuView.advance ∧
      (∀ r, t.reg r = u.reg r) ∧ (∀ r, t.freg r = u.freg r) ∧ t.pc = u.pc ∧ t.sleeping = u.sleeping ∧
      (∀ c, c ≠ 0#4 → c ≠ 2#4 → c ≠ 6#4 → t.creg c = u.creg c) ∧ t.sr = s.sr ∧ t.gbr = s.gbr ∧
      (∀ a < 4294967296, s.isDevice a = false → t.mem.read a = Memory.read { u.mem with fill := s.mem.fill } a) ∧
      (∀ a, s.isDevice a = true → t.mem.read a = s.mem.read a) ∧ t.devLog = u.devLog ∧
      t.cfg = s.cfg ∧ t.pending = s.pending ∧ t.inputs = s.inputs) ∧
    (s.cfg.hasFstcd = false → exec (.fstcd n) s = .refused .fstcdNotSupplied)

/-- Without the FPU every word of block 9 and PUSH and POP FRn are reserved (R350, R381). -/
def Obligations.AbsentFpuStops : Prop :=
  ∀ (s : State) (w : Half) (i : Instr), decodeWord w = .ok i →
    ((s.cfg.hasFpu = false ∧ (nibbleA w = 9#4 ∨
        (nibbleA w = 3#4 ∧ nibbleB w = 8#4 ∧ (nibbleM w = 2#4 ∨ nibbleM w = 3#4)))) ∨
      (s.cfg.hasFpuPushPop = false ∧ nibbleA w = 3#4 ∧ nibbleB w = 8#4 ∧ (nibbleM w = 2#4 ∨ nibbleM w = 3#4))) →
    exec i s = .fault (.partAbsent w s.pc)

/-- An instruction changes no byte of memory but those of the one write it makes (R70, R144, R329, R379, R413, R422).
-/
def Obligations.OnlyStoresChangeMemory : Prop :=
  ∀ (i : Instr) (s t : State), (∀ n, i ≠ .fstcd n) → exec i s = .next t →
    match accessOf s i with
    | none => t.mem = s.mem ∧ t.devLog = s.devLog
    | some (.read, _, _) => t.mem = s.mem
    | some (.write, a, k) => ∀ b, b ∉ accessAddrs a k → t.mem.read b = s.mem.read b

/-- GBR, TBR and VBR change only by a control-register move or pop, LR also by BSR, and the rest also by trap entry
(R32, R40, R41, R44, R45, R46). -/
def Obligations.WhichInstructionsWriteControlRegisters : Prop :=
  ∀ (i : Instr) (s t : State) (c : CReg), exec i s = .next t → c ≠ 0#4 → c ≠ 2#4 →
    (c ≠ 6#4 → ∀ n, i ≠ .fstcd n) → (∀ m, i ≠ .movToCtl c m) → i ≠ .popCtl c →
    (c = 3#4 ∨ c = 6#4 ∨ c = 7#4 → t.creg c = s.creg c) ∧
    (c = 1#4 → (∀ d, i ≠ .bsrDisp d) → (∀ n, i ≠ .bsrReg n) → t.creg c = s.creg c) ∧
    (t.creg c = s.creg c ∨ c = 1#4 ∨
      (s.sr.bl = false ∧ t.sleeping = false ∧ (t.pc = s.vbr + 0x08#32 ∨ t.pc = s.vbr + 0x10#32)))

/-- SR.S changes only by CLRS, SETS, NOTS and whole-SR writes, SR.IPL only by whole-SR writes (R34, R36, R37, R410).
-/
def Obligations.WhichInstructionsWriteTheStatusRegister : Prop :=
  ∀ (i : Instr) (s t : State), exec i s = .next t →
    ((∀ m, i ≠ .movToCtl 2#4 m) → i ≠ .popCtl 2#4 → i ≠ .rte →
      t.sr.ipl = s.sr.ipl ∧ t.sr.mid = s.sr.mid ∧ t.sr.top = s.sr.top ∧
      t.sr.s = (if i = .clrs then false else if i = .sets then true else if i = .nots then !s.sr.s else s.sr.s)) ∧
    (∀ m, i = .movToCtl 2#4 m → t.sr.s = (s.reg m).getLsbD 1 ∧ t.sr.ipl = (s.reg m).extractLsb' 2 2) ∧
    (i = .popCtl 2#4 → Readable s (s.reg sp) 4 → t.sr.s = (s.le32 (s.reg sp)).getLsbD 1 ∧
      t.sr.ipl = (s.le32 (s.reg sp)).extractLsb' 2 2) ∧
    (i = .rte → t.sr.s = s.ssr.getLsbD 1 ∧ t.sr.ipl = s.ssr.extractLsb' 2 2)

/-- Two states that differ in the mode alone, or in the status bits that no rule reads, run every instruction alike
(log entries 13 and 18) (R440, R33, R36, R39, R430). -/
def Obligations.ModeAndIdleStatusBitsHaveNoEffect : Prop :=
  RunsAlikeBut State.forgetMode ∧ RunsAlikeBut State.forgetIdle
end

