-- ==== Sys2Proof/Laws/Decode.lean ====
section
/-! SUPPORT. The digits of a word put together and taken apart again, for the encoder and the decoder. -/

namespace Sys2Proof

@[simp] theorem nibbleA_nibbles (a b n m : BitVec 4) : nibbleA (nibbles a b n m) = a := by
  apply BitVec.eq_of_getLsbD_eq
  intro i hi
  simp only [nibbleA, nibbles, BitVec.getLsbD_extractLsb', BitVec.getLsbD_append]
  have h1 : ¬ 12 + i < 4 := by omega
  have h2 : ¬ 12 + i - 4 < 4 := by omega
  have h3 : ¬ 12 + i - 4 - 4 < 4 := by omega
  have h4 : 12 + i - 4 - 4 - 4 = i := by omega
  simp [hi, h1, h2, h3, h4]

@[simp] theorem nibbleB_nibbles (a b n m : BitVec 4) : nibbleB (nibbles a b n m) = b := by
  apply BitVec.eq_of_getLsbD_eq
  intro i hi
  simp only [nibbleB, nibbles, BitVec.getLsbD_extractLsb', BitVec.getLsbD_append]
  have h1 : ¬ 8 + i < 4 := by omega
  have h2 : ¬ 8 + i - 4 < 4 := by omega
  have h4 : 8 + i - 4 - 4 = i := by omega
  simp [hi, h1, h2, h4]

@[simp] theorem nibbleN_nibbles (a b n m : BitVec 4) : nibbleN (nibbles a b n m) = n := by
  apply BitVec.eq_of_getLsbD_eq
  intro i hi
  simp only [nibbleN, nibbles, BitVec.getLsbD_extractLsb', BitVec.getLsbD_append]
  have h1 : ¬ 4 + i < 4 := by omega
  have h4 : 4 + i - 4 = i := by omega
  simp [hi, h1, h4]

@[simp] theorem nibbleM_nibbles (a b n m : BitVec 4) : nibbleM (nibbles a b n m) = m := by
  apply BitVec.eq_of_getLsbD_eq
  intro i hi
  simp only [nibbleM, nibbles, BitVec.getLsbD_extractLsb', BitVec.getLsbD_append]
  simp [hi]

/-- The decoder of a word written by its digits is the decoder of the digits. -/
@[simp] theorem decodeWord_nibbles (a b n m : BitVec 4) : decodeWord (nibbles a b n m) = decodeNibbles a b n m := by
  simp [decodeWord]

/-- A word is its digits. -/
theorem nibbles_of_word (w : Half) : nibbles (nibbleA w) (nibbleB w) (nibbleN w) (nibbleM w) = w := by
  apply BitVec.eq_of_getLsbD_eq
  intro i hi
  simp only [nibbles, nibbleA, nibbleB, nibbleN, nibbleM, BitVec.getLsbD_append, BitVec.getLsbD_extractLsb']
  split
  · next h => simp [h]
  · split
    · next h h' => simp only [h', decide_true, Bool.true_and]; congr 1; omega
    · split
      · next h h' h'' => simp only [h'', decide_true, Bool.true_and]; congr 1; omega
      · next h h' h'' =>
        have : i - 4 - 4 - 4 < 4 := by omega
        simp only [this, decide_true, Bool.true_and]; congr 1; omega

@[simp] theorem high4_low4 (v : BitVec 8) : high4 v ++ low4 v = v := by
  apply BitVec.eq_of_getLsbD_eq
  intro i hi
  simp only [high4, low4, BitVec.getLsbD_append, BitVec.getLsbD_extractLsb']
  split
  · next h => simp [h]
  · next h =>
    have : i - 4 < 4 := by omega
    simp only [this, decide_true, Bool.true_and]; congr 1; omega

@[simp] theorem top4_mid4_low4 (v : BitVec 12) : top4 v ++ mid4 v ++ low4 v = v := by
  apply BitVec.eq_of_getLsbD_eq
  intro i hi
  simp only [top4, mid4, low4, BitVec.getLsbD_append, BitVec.getLsbD_extractLsb']
  split
  · next h => simp [h]
  · split
    · next h h' => simp only [h', decide_true, Bool.true_and]; congr 1; omega
    · next h h' =>
      have : i - 4 - 4 < 4 := by omega
      simp only [this, decide_true, Bool.true_and]; congr 1; omega

/-- The two bytes of a word, the low one first, are the word again (20_memory.md R62). -/
theorem wordOfBytes_split (w : Half) : wordOfBytes (w.extractLsb' 0 8) (w.extractLsb' 8 8) = w := by
  apply BitVec.eq_of_getLsbD_eq
  intro i hi
  simp only [wordOfBytes, BitVec.getLsbD_append, BitVec.getLsbD_extractLsb']
  split
  · next h => simp [h]
  · next h =>
    have : i - 8 < 8 := by omega
    simp only [this, decide_true, Bool.true_and]; congr 1; omega

end Sys2Proof
end

