-- ==== Sys2Proof/Laws/Memory.lean ====
section
/-! SUPPORT. Reads after writes, and the canonical form: every operation on a memory or a set of addresses keeps it. -/

namespace Sys2Proof.Machine

/-! ### Looking up -/

theorem lookupCell_insertCell_same (a : Nat) (v : Byte) (cs : List Host.Cell) :
    lookupCell a (insertCell a v cs) = some v := by
  induction cs with
  | nil => simp [insertCell, lookupCell]
  | cons c cs ih =>
    obtain ⟨b, u⟩ := c
    simp only [insertCell]
    split
    · simp [lookupCell]
    · split
      · simp [lookupCell]
      · simp [lookupCell, *]

theorem lookupCell_insertCell_ne {a b : Nat} (h : b ≠ a) (v : Byte) (cs : List Host.Cell) :
    lookupCell b (insertCell a v cs) = lookupCell b cs := by
  induction cs with
  | nil => simp [insertCell, lookupCell, h]
  | cons c cs ih =>
    obtain ⟨d, u⟩ := c
    simp only [insertCell]
    split
    · simp [lookupCell, h]
    · split
      · next e => subst e; simp [lookupCell, h]
      · simp [lookupCell, ih]

theorem lookupCell_eraseCell_same (a : Nat) (cs : List Host.Cell) : lookupCell a (eraseCell a cs) = none := by
  induction cs with
  | nil => rfl
  | cons c cs ih =>
    obtain ⟨b, u⟩ := c
    simp only [eraseCell]
    split
    · exact ih
    · simp [lookupCell, *]

theorem lookupCell_eraseCell_ne {a b : Nat} (h : b ≠ a) (cs : List Host.Cell) :
    lookupCell b (eraseCell a cs) = lookupCell b cs := by
  induction cs with
  | nil => rfl
  | cons c cs ih =>
    obtain ⟨d, u⟩ := c
    simp only [eraseCell]
    split
    · next e => subst e; simp [lookupCell, h, ih]
    · simp [lookupCell, ih]

/-- A read after a write to the same address gives the byte written. -/
@[simp] theorem Memory.read_write_same (m : Memory) (a : Nat) (v : Byte) : (m.write a v).read a = v := by
  unfold Memory.read Memory.write
  split
  · next h => simp [lookupCell_eraseCell_same, h]
  · simp [lookupCell_insertCell_same]

/-- A write leaves every other address as it was. -/
theorem Memory.read_write_ne {a b : Nat} (h : b ≠ a) (m : Memory) (v : Byte) : (m.write a v).read b = m.read b := by
  unfold Memory.read Memory.write
  split
  · simp [lookupCell_eraseCell_ne h]
  · simp [lookupCell_insertCell_ne h]

/-! ### The canonical form -/

theorem rising_weaken {p q : Nat} (h : p ≤ q) {as : List Nat} (r : risingFrom (some q) as = true) :
    risingFrom (some p) as = true := by
  cases as with
  | nil => rfl
  | cons a as =>
    simp only [risingFrom, Bool.and_eq_true, decide_eq_true_eq] at r ⊢
    exact ⟨by omega, r.2⟩

theorem rising_none {p : Nat} {as : List Nat} (r : risingFrom (some p) as = true) : risingFrom none as = true := by
  cases as with
  | nil => rfl
  | cons a as =>
    simp only [risingFrom, Bool.and_eq_true] at r ⊢
    exact r.2

theorem insertAddr_rising_some (a p : Nat) (as : List Nat) (r : risingFrom (some p) as = true) (h : p < a) :
    risingFrom (some p) (insertAddr a as) = true := by
  induction as generalizing p with
  | nil => simp [insertAddr, risingFrom, h]
  | cons b as ih =>
    simp only [risingFrom, Bool.and_eq_true, decide_eq_true_eq] at r
    simp only [insertAddr]
    split
    · next hab => simp [risingFrom, h, hab, r.2]
    · split
      · simp [risingFrom, r.1, r.2]
      · simp only [risingFrom, Bool.and_eq_true, decide_eq_true_eq]
        exact ⟨r.1, ih b r.2 (by omega)⟩

theorem insertAddr_rising (a : Nat) (as : List Nat) (r : risingFrom none as = true) :
    risingFrom none (insertAddr a as) = true := by
  cases as with
  | nil => simp [insertAddr, risingFrom]
  | cons b as =>
    simp only [risingFrom] at r
    simp only [insertAddr]
    split
    · next hab => simp [risingFrom, hab, r]
    · split
      · simp [risingFrom, r]
      · simpa only [risingFrom] using insertAddr_rising_some a b as r (by omega)

theorem mem_insertAddr (a b : Nat) (as : List Nat) : b ∈ insertAddr a as ↔ b = a ∨ b ∈ as := by
  induction as with
  | nil => simp [insertAddr]
  | cons c as ih =>
    simp only [insertAddr]
    split
    · simp
    · split
      · next e => subst e; simp
      · simp only [List.mem_cons, ih]; tauto

/-- Putting an address below 2^32 into a canonical set keeps it canonical. -/
theorem addrsWf_insertAddr {a : Nat} {as : List Nat} (h : addrsWf as = true) (ha : a < 4294967296) :
    addrsWf (insertAddr a as) = true := by
  simp only [addrsWf, Bool.and_eq_true, List.all_eq_true, decide_eq_true_eq] at h ⊢
  refine ⟨insertAddr_rising a as h.1, fun b hb => ?_⟩
  rcases (mem_insertAddr a b as).1 hb with rfl | hb
  · exact ha
  · exact h.2 b hb

/-- The addresses of `insertCell` are those of `insertAddr`. -/
theorem insertCell_addrs (a : Nat) (v : Byte) (cs : List Host.Cell) :
    (insertCell a v cs).map (·.1) = insertAddr a (cs.map (·.1)) := by
  induction cs with
  | nil => rfl
  | cons c cs ih =>
    obtain ⟨b, u⟩ := c
    simp only [insertCell, List.map_cons, insertAddr]
    split
    · rfl
    · split
      · next e => subst e; rfl
      · simp [ih]

theorem eraseCell_rising (a p : Nat) (cs : List Host.Cell) (r : risingFrom (some p) (cs.map (·.1)) = true) :
    risingFrom (some p) ((eraseCell a cs).map (·.1)) = true := by
  induction cs generalizing p with
  | nil => rfl
  | cons c cs ih =>
    obtain ⟨b, u⟩ := c
    simp only [List.map_cons, risingFrom, Bool.and_eq_true, decide_eq_true_eq] at r
    simp only [eraseCell]
    split
    · exact ih p (rising_weaken (by omega) r.2)
    · simp only [List.map_cons, risingFrom, Bool.and_eq_true, decide_eq_true_eq]
      exact ⟨r.1, ih b r.2⟩

theorem eraseCell_rising_none (a : Nat) (cs : List Host.Cell) (r : risingFrom none (cs.map (·.1)) = true) :
    risingFrom none ((eraseCell a cs).map (·.1)) = true := by
  cases cs with
  | nil => rfl
  | cons c cs =>
    obtain ⟨b, u⟩ := c
    simp only [List.map_cons, risingFrom] at r
    simp only [eraseCell]
    split
    · exact rising_none (eraseCell_rising a b cs r)
    · simpa only [List.map_cons, risingFrom] using eraseCell_rising a b cs r

theorem mem_eraseCell {a : Nat} {c : Host.Cell} {cs : List Host.Cell} (h : c ∈ eraseCell a cs) : c ∈ cs := by
  induction cs with
  | nil => exact h
  | cons d cs ih =>
    obtain ⟨b, u⟩ := d
    simp only [eraseCell] at h
    split at h
    · exact List.mem_cons_of_mem _ (ih h)
    · rcases List.mem_cons.1 h with h | h
      · exact h ▸ List.mem_cons_self
      · exact List.mem_cons_of_mem _ (ih h)

theorem mem_insertCell {a : Nat} {v : Byte} {c : Host.Cell} {cs : List Host.Cell} (h : c ∈ insertCell a v cs) :
    c = (a, v) ∨ c ∈ cs := by
  induction cs with
  | nil => exact .inl (by simpa [insertCell] using h)
  | cons d cs ih =>
    obtain ⟨b, u⟩ := d
    simp only [insertCell] at h
    split at h
    · simpa using h
    · split at h
      · rcases List.mem_cons.1 h with h | h
        · exact .inl h
        · exact .inr (List.mem_cons_of_mem _ h)
      · rcases List.mem_cons.1 h with h | h
        · exact .inr (h ▸ List.mem_cons_self)
        · exact (ih h).imp_right (List.mem_cons_of_mem _)

/-- The cells of a memory after a write are those before it and the one written. -/
theorem Memory.mem_write_cells {m : Memory} {a : Nat} {v : Byte} {c : Host.Cell} (h : c ∈ (m.write a v).cells) :
    c = (a, v) ∨ c ∈ m.cells := by
  unfold Memory.write at h
  split at h
  · exact .inr (mem_eraseCell h)
  · exact mem_insertCell h

@[simp] theorem Memory.write_fill (m : Memory) (a : Nat) (v : Byte) : (m.write a v).fill = m.fill := rfl

/-- A write at an address below 2^32 keeps the canonical form. -/
theorem Memory.wf_write {m : Memory} {a : Nat} (v : Byte) (h : m.wf = true) (ha : a < 4294967296) :
    (m.write a v).wf = true := by
  simp only [Memory.wf, Bool.and_eq_true, List.all_eq_true, bne_iff_ne, ne_eq] at h ⊢
  unfold Memory.write
  split
  · simp only [addrsWf, Bool.and_eq_true, List.all_eq_true, decide_eq_true_eq, List.mem_map] at h ⊢
    refine ⟨⟨eraseCell_rising_none a _ h.1.1, ?_⟩, fun c hc => h.2 c (mem_eraseCell hc)⟩
    rintro _ ⟨c, hc, rfl⟩
    exact h.1.2 _ ⟨c, mem_eraseCell hc, rfl⟩
  · next hv =>
    refine ⟨by rw [insertCell_addrs]; exact addrsWf_insertAddr h.1 ha, fun c hc => ?_⟩
    rcases mem_insertCell hc with rfl | hc
    · exact hv
    · exact h.2 c hc

/-- The memory of the reset state has the canonical form. -/
theorem Memory.wf_reset : State.reset.mem.wf = true := by decide

end Sys2Proof.Machine
end

