-- ==== Sys2Proof/Laws/State.lean ====
section
/-! SUPPORT. What each update of the state does to each field, so that no proof unfolds a record update. -/

namespace Sys2Proof.Machine

variable (s : State)

/-! ### State.setReg -/

@[simp] theorem State.setReg_cfg (n : Reg) (v : Word) : (s.setReg n v).cfg = s.cfg := rfl
@[simp] theorem State.setReg_regs (n : Reg) (v : Word) : (s.setReg n v).regs = s.regs.set n.toNat v n.isLt := rfl
@[simp] theorem State.setReg_pc (n : Reg) (v : Word) : (s.setReg n v).pc = s.pc := rfl
@[simp] theorem State.setReg_lr (n : Reg) (v : Word) : (s.setReg n v).lr = s.lr := rfl
@[simp] theorem State.setReg_sr (n : Reg) (v : Word) : (s.setReg n v).sr = s.sr := rfl
@[simp] theorem State.setReg_vbr (n : Reg) (v : Word) : (s.setReg n v).vbr = s.vbr := rfl
@[simp] theorem State.setReg_spc (n : Reg) (v : Word) : (s.setReg n v).spc = s.spc := rfl
@[simp] theorem State.setReg_ssp (n : Reg) (v : Word) : (s.setReg n v).ssp = s.ssp := rfl
@[simp] theorem State.setReg_gbr (n : Reg) (v : Word) : (s.setReg n v).gbr = s.gbr := rfl
@[simp] theorem State.setReg_tbr (n : Reg) (v : Word) : (s.setReg n v).tbr = s.tbr := rfl
@[simp] theorem State.setReg_exsr (n : Reg) (v : Word) : (s.setReg n v).exsr = s.exsr := rfl
@[simp] theorem State.setReg_ssr (n : Reg) (v : Word) : (s.setReg n v).ssr = s.ssr := rfl
@[simp] theorem State.setReg_fregs (n : Reg) (v : Word) : (s.setReg n v).fregs = s.fregs := rfl
@[simp] theorem State.setReg_mem (n : Reg) (v : Word) : (s.setReg n v).mem = s.mem := rfl
@[simp] theorem State.setReg_pending (n : Reg) (v : Word) : (s.setReg n v).pending = s.pending := rfl
@[simp] theorem State.setReg_sleeping (n : Reg) (v : Word) : (s.setReg n v).sleeping = s.sleeping := rfl
@[simp] theorem State.setReg_draws (n : Reg) (v : Word) : (s.setReg n v).draws = s.draws := rfl
@[simp] theorem State.setReg_inputs (n : Reg) (v : Word) : (s.setReg n v).inputs = s.inputs := rfl
@[simp] theorem State.setReg_stored (n : Reg) (v : Word) : (s.setReg n v).stored = s.stored := rfl
@[simp] theorem State.setReg_devLog (n : Reg) (v : Word) : (s.setReg n v).devLog = s.devLog := rfl
@[simp] theorem State.setReg_freg (n : Reg) (v : Word) (i : FReg) : (s.setReg n v).freg i = s.freg i := rfl

/-! ### State.setFreg -/

@[simp] theorem State.setFreg_cfg (n : FReg) (v : DWord) : (s.setFreg n v).cfg = s.cfg := rfl
@[simp] theorem State.setFreg_regs (n : FReg) (v : DWord) : (s.setFreg n v).regs = s.regs := rfl
@[simp] theorem State.setFreg_pc (n : FReg) (v : DWord) : (s.setFreg n v).pc = s.pc := rfl
@[simp] theorem State.setFreg_lr (n : FReg) (v : DWord) : (s.setFreg n v).lr = s.lr := rfl
@[simp] theorem State.setFreg_sr (n : FReg) (v : DWord) : (s.setFreg n v).sr = s.sr := rfl
@[simp] theorem State.setFreg_vbr (n : FReg) (v : DWord) : (s.setFreg n v).vbr = s.vbr := rfl
@[simp] theorem State.setFreg_spc (n : FReg) (v : DWord) : (s.setFreg n v).spc = s.spc := rfl
@[simp] theorem State.setFreg_ssp (n : FReg) (v : DWord) : (s.setFreg n v).ssp = s.ssp := rfl
@[simp] theorem State.setFreg_gbr (n : FReg) (v : DWord) : (s.setFreg n v).gbr = s.gbr := rfl
@[simp] theorem State.setFreg_tbr (n : FReg) (v : DWord) : (s.setFreg n v).tbr = s.tbr := rfl
@[simp] theorem State.setFreg_exsr (n : FReg) (v : DWord) : (s.setFreg n v).exsr = s.exsr := rfl
@[simp] theorem State.setFreg_ssr (n : FReg) (v : DWord) : (s.setFreg n v).ssr = s.ssr := rfl
@[simp] theorem State.setFreg_fregs (n : FReg) (v : DWord) : (s.setFreg n v).fregs = s.fregs.set n.toNat v n.isLt := rfl
@[simp] theorem State.setFreg_mem (n : FReg) (v : DWord) : (s.setFreg n v).mem = s.mem := rfl
@[simp] theorem State.setFreg_pending (n : FReg) (v : DWord) : (s.setFreg n v).pending = s.pending := rfl
@[simp] theorem State.setFreg_sleeping (n : FReg) (v : DWord) : (s.setFreg n v).sleeping = s.sleeping := rfl
@[simp] theorem State.setFreg_draws (n : FReg) (v : DWord) : (s.setFreg n v).draws = s.draws := rfl
@[simp] theorem State.setFreg_inputs (n : FReg) (v : DWord) : (s.setFreg n v).inputs = s.inputs := rfl
@[simp] theorem State.setFreg_stored (n : FReg) (v : DWord) : (s.setFreg n v).stored = s.stored := rfl
@[simp] theorem State.setFreg_devLog (n : FReg) (v : DWord) : (s.setFreg n v).devLog = s.devLog := rfl
@[simp] theorem State.setFreg_reg (n : FReg) (v : DWord) (i : Reg) : (s.setFreg n v).reg i = s.reg i := rfl

/-! ### State.setPc -/

@[simp] theorem State.setPc_cfg (v : Word) : (s.setPc v).cfg = s.cfg := rfl
@[simp] theorem State.setPc_regs (v : Word) : (s.setPc v).regs = s.regs := rfl
@[simp] theorem State.setPc_pc (v : Word) : (s.setPc v).pc = v := rfl
@[simp] theorem State.setPc_lr (v : Word) : (s.setPc v).lr = s.lr := rfl
@[simp] theorem State.setPc_sr (v : Word) : (s.setPc v).sr = s.sr := rfl
@[simp] theorem State.setPc_vbr (v : Word) : (s.setPc v).vbr = s.vbr := rfl
@[simp] theorem State.setPc_spc (v : Word) : (s.setPc v).spc = s.spc := rfl
@[simp] theorem State.setPc_ssp (v : Word) : (s.setPc v).ssp = s.ssp := rfl
@[simp] theorem State.setPc_gbr (v : Word) : (s.setPc v).gbr = s.gbr := rfl
@[simp] theorem State.setPc_tbr (v : Word) : (s.setPc v).tbr = s.tbr := rfl
@[simp] theorem State.setPc_exsr (v : Word) : (s.setPc v).exsr = s.exsr := rfl
@[simp] theorem State.setPc_ssr (v : Word) : (s.setPc v).ssr = s.ssr := rfl
@[simp] theorem State.setPc_fregs (v : Word) : (s.setPc v).fregs = s.fregs := rfl
@[simp] theorem State.setPc_mem (v : Word) : (s.setPc v).mem = s.mem := rfl
@[simp] theorem State.setPc_pending (v : Word) : (s.setPc v).pending = s.pending := rfl
@[simp] theorem State.setPc_sleeping (v : Word) : (s.setPc v).sleeping = s.sleeping := rfl
@[simp] theorem State.setPc_draws (v : Word) : (s.setPc v).draws = s.draws := rfl
@[simp] theorem State.setPc_inputs (v : Word) : (s.setPc v).inputs = s.inputs := rfl
@[simp] theorem State.setPc_stored (v : Word) : (s.setPc v).stored = s.stored := rfl
@[simp] theorem State.setPc_devLog (v : Word) : (s.setPc v).devLog = s.devLog := rfl
@[simp] theorem State.setPc_reg (v : Word) (i : Reg) : (s.setPc v).reg i = s.reg i := rfl
@[simp] theorem State.setPc_freg (v : Word) (i : FReg) : (s.setPc v).freg i = s.freg i := rfl

/-! ### State.advance -/

@[simp] theorem State.advance_cfg : (s.advance).cfg = s.cfg := rfl
@[simp] theorem State.advance_regs : (s.advance).regs = s.regs := rfl
@[simp] theorem State.advance_pc : (s.advance).pc = s.pc + 2#32 := rfl
@[simp] theorem State.advance_lr : (s.advance).lr = s.lr := rfl
@[simp] theorem State.advance_sr : (s.advance).sr = s.sr := rfl
@[simp] theorem State.advance_vbr : (s.advance).vbr = s.vbr := rfl
@[simp] theorem State.advance_spc : (s.advance).spc = s.spc := rfl
@[simp] theorem State.advance_ssp : (s.advance).ssp = s.ssp := rfl
@[simp] theorem State.advance_gbr : (s.advance).gbr = s.gbr := rfl
@[simp] theorem State.advance_tbr : (s.advance).tbr = s.tbr := rfl
@[simp] theorem State.advance_exsr : (s.advance).exsr = s.exsr := rfl
@[simp] theorem State.advance_ssr : (s.advance).ssr = s.ssr := rfl
@[simp] theorem State.advance_fregs : (s.advance).fregs = s.fregs := rfl
@[simp] theorem State.advance_mem : (s.advance).mem = s.mem := rfl
@[simp] theorem State.advance_pending : (s.advance).pending = s.pending := rfl
@[simp] theorem State.advance_sleeping : (s.advance).sleeping = s.sleeping := rfl
@[simp] theorem State.advance_draws : (s.advance).draws = s.draws := rfl
@[simp] theorem State.advance_inputs : (s.advance).inputs = s.inputs := rfl
@[simp] theorem State.advance_stored : (s.advance).stored = s.stored := rfl
@[simp] theorem State.advance_devLog : (s.advance).devLog = s.devLog := rfl
@[simp] theorem State.advance_reg (i : Reg) : (s.advance).reg i = s.reg i := rfl
@[simp] theorem State.advance_freg (i : FReg) : (s.advance).freg i = s.freg i := rfl

/-! ### State.setLr -/

@[simp] theorem State.setLr_cfg (v : Word) : (s.setLr v).cfg = s.cfg := rfl
@[simp] theorem State.setLr_regs (v : Word) : (s.setLr v).regs = s.regs := rfl
@[simp] theorem State.setLr_pc (v : Word) : (s.setLr v).pc = s.pc := rfl
@[simp] theorem State.setLr_lr (v : Word) : (s.setLr v).lr = v := rfl
@[simp] theorem State.setLr_sr (v : Word) : (s.setLr v).sr = s.sr := rfl
@[simp] theorem State.setLr_vbr (v : Word) : (s.setLr v).vbr = s.vbr := rfl
@[simp] theorem State.setLr_spc (v : Word) : (s.setLr v).spc = s.spc := rfl
@[simp] theorem State.setLr_ssp (v : Word) : (s.setLr v).ssp = s.ssp := rfl
@[simp] theorem State.setLr_gbr (v : Word) : (s.setLr v).gbr = s.gbr := rfl
@[simp] theorem State.setLr_tbr (v : Word) : (s.setLr v).tbr = s.tbr := rfl
@[simp] theorem State.setLr_exsr (v : Word) : (s.setLr v).exsr = s.exsr := rfl
@[simp] theorem State.setLr_ssr (v : Word) : (s.setLr v).ssr = s.ssr := rfl
@[simp] theorem State.setLr_fregs (v : Word) : (s.setLr v).fregs = s.fregs := rfl
@[simp] theorem State.setLr_mem (v : Word) : (s.setLr v).mem = s.mem := rfl
@[simp] theorem State.setLr_pending (v : Word) : (s.setLr v).pending = s.pending := rfl
@[simp] theorem State.setLr_sleeping (v : Word) : (s.setLr v).sleeping = s.sleeping := rfl
@[simp] theorem State.setLr_draws (v : Word) : (s.setLr v).draws = s.draws := rfl
@[simp] theorem State.setLr_inputs (v : Word) : (s.setLr v).inputs = s.inputs := rfl
@[simp] theorem State.setLr_stored (v : Word) : (s.setLr v).stored = s.stored := rfl
@[simp] theorem State.setLr_devLog (v : Word) : (s.setLr v).devLog = s.devLog := rfl
@[simp] theorem State.setLr_reg (v : Word) (i : Reg) : (s.setLr v).reg i = s.reg i := rfl
@[simp] theorem State.setLr_freg (v : Word) (i : FReg) : (s.setLr v).freg i = s.freg i := rfl

/-! ### State.setSr -/

@[simp] theorem State.setSr_cfg (r : StatusReg) : (s.setSr r).cfg = s.cfg := rfl
@[simp] theorem State.setSr_regs (r : StatusReg) : (s.setSr r).regs = s.regs := rfl
@[simp] theorem State.setSr_pc (r : StatusReg) : (s.setSr r).pc = s.pc := rfl
@[simp] theorem State.setSr_lr (r : StatusReg) : (s.setSr r).lr = s.lr := rfl
@[simp] theorem State.setSr_sr (r : StatusReg) : (s.setSr r).sr = r := rfl
@[simp] theorem State.setSr_vbr (r : StatusReg) : (s.setSr r).vbr = s.vbr := rfl
@[simp] theorem State.setSr_spc (r : StatusReg) : (s.setSr r).spc = s.spc := rfl
@[simp] theorem State.setSr_ssp (r : StatusReg) : (s.setSr r).ssp = s.ssp := rfl
@[simp] theorem State.setSr_gbr (r : StatusReg) : (s.setSr r).gbr = s.gbr := rfl
@[simp] theorem State.setSr_tbr (r : StatusReg) : (s.setSr r).tbr = s.tbr := rfl
@[simp] theorem State.setSr_exsr (r : StatusReg) : (s.setSr r).exsr = s.exsr := rfl
@[simp] theorem State.setSr_ssr (r : StatusReg) : (s.setSr r).ssr = s.ssr := rfl
@[simp] theorem State.setSr_fregs (r : StatusReg) : (s.setSr r).fregs = s.fregs := rfl
@[simp] theorem State.setSr_mem (r : StatusReg) : (s.setSr r).mem = s.mem := rfl
@[simp] theorem State.setSr_pending (r : StatusReg) : (s.setSr r).pending = s.pending := rfl
@[simp] theorem State.setSr_sleeping (r : StatusReg) : (s.setSr r).sleeping = s.sleeping := rfl
@[simp] theorem State.setSr_draws (r : StatusReg) : (s.setSr r).draws = s.draws := rfl
@[simp] theorem State.setSr_inputs (r : StatusReg) : (s.setSr r).inputs = s.inputs := rfl
@[simp] theorem State.setSr_stored (r : StatusReg) : (s.setSr r).stored = s.stored := rfl
@[simp] theorem State.setSr_devLog (r : StatusReg) : (s.setSr r).devLog = s.devLog := rfl
@[simp] theorem State.setSr_reg (r : StatusReg) (i : Reg) : (s.setSr r).reg i = s.reg i := rfl
@[simp] theorem State.setSr_freg (r : StatusReg) (i : FReg) : (s.setSr r).freg i = s.freg i := rfl

/-! ### State.setT -/

@[simp] theorem State.setT_cfg (b : Bool) : (s.setT b).cfg = s.cfg := rfl
@[simp] theorem State.setT_regs (b : Bool) : (s.setT b).regs = s.regs := rfl
@[simp] theorem State.setT_pc (b : Bool) : (s.setT b).pc = s.pc := rfl
@[simp] theorem State.setT_lr (b : Bool) : (s.setT b).lr = s.lr := rfl
@[simp] theorem State.setT_sr (b : Bool) : (s.setT b).sr = s.sr.withT b := rfl
@[simp] theorem State.setT_vbr (b : Bool) : (s.setT b).vbr = s.vbr := rfl
@[simp] theorem State.setT_spc (b : Bool) : (s.setT b).spc = s.spc := rfl
@[simp] theorem State.setT_ssp (b : Bool) : (s.setT b).ssp = s.ssp := rfl
@[simp] theorem State.setT_gbr (b : Bool) : (s.setT b).gbr = s.gbr := rfl
@[simp] theorem State.setT_tbr (b : Bool) : (s.setT b).tbr = s.tbr := rfl
@[simp] theorem State.setT_exsr (b : Bool) : (s.setT b).exsr = s.exsr := rfl
@[simp] theorem State.setT_ssr (b : Bool) : (s.setT b).ssr = s.ssr := rfl
@[simp] theorem State.setT_fregs (b : Bool) : (s.setT b).fregs = s.fregs := rfl
@[simp] theorem State.setT_mem (b : Bool) : (s.setT b).mem = s.mem := rfl
@[simp] theorem State.setT_pending (b : Bool) : (s.setT b).pending = s.pending := rfl
@[simp] theorem State.setT_sleeping (b : Bool) : (s.setT b).sleeping = s.sleeping := rfl
@[simp] theorem State.setT_draws (b : Bool) : (s.setT b).draws = s.draws := rfl
@[simp] theorem State.setT_inputs (b : Bool) : (s.setT b).inputs = s.inputs := rfl
@[simp] theorem State.setT_stored (b : Bool) : (s.setT b).stored = s.stored := rfl
@[simp] theorem State.setT_devLog (b : Bool) : (s.setT b).devLog = s.devLog := rfl
@[simp] theorem State.setT_reg (b : Bool) (i : Reg) : (s.setT b).reg i = s.reg i := rfl
@[simp] theorem State.setT_freg (b : Bool) (i : FReg) : (s.setT b).freg i = s.freg i := rfl

/-! ### State.setS -/

@[simp] theorem State.setS_cfg (b : Bool) : (s.setS b).cfg = s.cfg := rfl
@[simp] theorem State.setS_regs (b : Bool) : (s.setS b).regs = s.regs := rfl
@[simp] theorem State.setS_pc (b : Bool) : (s.setS b).pc = s.pc := rfl
@[simp] theorem State.setS_lr (b : Bool) : (s.setS b).lr = s.lr := rfl
@[simp] theorem State.setS_sr (b : Bool) : (s.setS b).sr = s.sr.withS b := rfl
@[simp] theorem State.setS_vbr (b : Bool) : (s.setS b).vbr = s.vbr := rfl
@[simp] theorem State.setS_spc (b : Bool) : (s.setS b).spc = s.spc := rfl
@[simp] theorem State.setS_ssp (b : Bool) : (s.setS b).ssp = s.ssp := rfl
@[simp] theorem State.setS_gbr (b : Bool) : (s.setS b).gbr = s.gbr := rfl
@[simp] theorem State.setS_tbr (b : Bool) : (s.setS b).tbr = s.tbr := rfl
@[simp] theorem State.setS_exsr (b : Bool) : (s.setS b).exsr = s.exsr := rfl
@[simp] theorem State.setS_ssr (b : Bool) : (s.setS b).ssr = s.ssr := rfl
@[simp] theorem State.setS_fregs (b : Bool) : (s.setS b).fregs = s.fregs := rfl
@[simp] theorem State.setS_mem (b : Bool) : (s.setS b).mem = s.mem := rfl
@[simp] theorem State.setS_pending (b : Bool) : (s.setS b).pending = s.pending := rfl
@[simp] theorem State.setS_sleeping (b : Bool) : (s.setS b).sleeping = s.sleeping := rfl
@[simp] theorem State.setS_draws (b : Bool) : (s.setS b).draws = s.draws := rfl
@[simp] theorem State.setS_inputs (b : Bool) : (s.setS b).inputs = s.inputs := rfl
@[simp] theorem State.setS_stored (b : Bool) : (s.setS b).stored = s.stored := rfl
@[simp] theorem State.setS_devLog (b : Bool) : (s.setS b).devLog = s.devLog := rfl
@[simp] theorem State.setS_reg (b : Bool) (i : Reg) : (s.setS b).reg i = s.reg i := rfl
@[simp] theorem State.setS_freg (b : Bool) (i : FReg) : (s.setS b).freg i = s.freg i := rfl

/-! ### State.fpuView -/

@[simp] theorem State.fpuView_cfg : (s.fpuView).cfg = s.cfg := rfl
@[simp] theorem State.fpuView_regs : (s.fpuView).regs = s.regs := rfl
@[simp] theorem State.fpuView_pc : (s.fpuView).pc = s.pc := rfl
@[simp] theorem State.fpuView_lr : (s.fpuView).lr = s.lr := rfl
@[simp] theorem State.fpuView_sr : (s.fpuView).sr = { s.sr.masks with ipl := 0#2 } := rfl
@[simp] theorem State.fpuView_vbr : (s.fpuView).vbr = s.vbr := rfl
@[simp] theorem State.fpuView_spc : (s.fpuView).spc = s.spc := rfl
@[simp] theorem State.fpuView_ssp : (s.fpuView).ssp = s.ssp := rfl
@[simp] theorem State.fpuView_gbr : (s.fpuView).gbr = s.gbr := rfl
@[simp] theorem State.fpuView_tbr : (s.fpuView).tbr = s.tbr := rfl
@[simp] theorem State.fpuView_exsr : (s.fpuView).exsr = s.exsr := rfl
@[simp] theorem State.fpuView_ssr : (s.fpuView).ssr = s.ssr := rfl
@[simp] theorem State.fpuView_fregs : (s.fpuView).fregs = s.fregs := rfl
@[simp] theorem State.fpuView_mem : (s.fpuView).mem = s.mem := rfl
@[simp] theorem State.fpuView_pending : (s.fpuView).pending = s.pending := rfl
@[simp] theorem State.fpuView_sleeping : (s.fpuView).sleeping = s.sleeping := rfl
@[simp] theorem State.fpuView_draws : (s.fpuView).draws = s.draws := rfl
@[simp] theorem State.fpuView_inputs : (s.fpuView).inputs = s.inputs := rfl
@[simp] theorem State.fpuView_stored : (s.fpuView).stored = s.stored := rfl
@[simp] theorem State.fpuView_devLog : (s.fpuView).devLog = s.devLog := rfl
@[simp] theorem State.fpuView_reg (i : Reg) : (s.fpuView).reg i = s.reg i := rfl
@[simp] theorem State.fpuView_freg (i : FReg) : (s.fpuView).freg i = s.freg i := rfl

/-! ### State.sleepView -/

@[simp] theorem State.sleepView_cfg : (s.sleepView).cfg = s.cfg := rfl
@[simp] theorem State.sleepView_regs : (s.sleepView).regs = s.regs := rfl
@[simp] theorem State.sleepView_pc : (s.sleepView).pc = s.pc := rfl
@[simp] theorem State.sleepView_lr : (s.sleepView).lr = s.lr := rfl
@[simp] theorem State.sleepView_sr : (s.sleepView).sr = s.sr.masks := rfl
@[simp] theorem State.sleepView_vbr : (s.sleepView).vbr = s.vbr := rfl
@[simp] theorem State.sleepView_spc : (s.sleepView).spc = s.spc := rfl
@[simp] theorem State.sleepView_ssp : (s.sleepView).ssp = s.ssp := rfl
@[simp] theorem State.sleepView_gbr : (s.sleepView).gbr = s.gbr := rfl
@[simp] theorem State.sleepView_tbr : (s.sleepView).tbr = s.tbr := rfl
@[simp] theorem State.sleepView_exsr : (s.sleepView).exsr = s.exsr := rfl
@[simp] theorem State.sleepView_ssr : (s.sleepView).ssr = s.ssr := rfl
@[simp] theorem State.sleepView_fregs : (s.sleepView).fregs = Vector.replicate 16 0#64 := rfl
@[simp] theorem State.sleepView_mem : (s.sleepView).mem = { fill := 0#8, cells := [] } := rfl
@[simp] theorem State.sleepView_pending : (s.sleepView).pending = s.pending := rfl
@[simp] theorem State.sleepView_sleeping : (s.sleepView).sleeping = s.sleeping := rfl
@[simp] theorem State.sleepView_draws : (s.sleepView).draws = s.draws := rfl
@[simp] theorem State.sleepView_inputs : (s.sleepView).inputs = s.inputs := rfl
@[simp] theorem State.sleepView_stored : (s.sleepView).stored = s.stored := rfl
@[simp] theorem State.sleepView_devLog : (s.sleepView).devLog = s.devLog := rfl
@[simp] theorem State.sleepView_reg (i : Reg) : (s.sleepView).reg i = s.reg i := rfl

/-! ### State.setSleeping -/

@[simp] theorem State.setSleeping_cfg (b : Bool) : (s.setSleeping b).cfg = s.cfg := rfl
@[simp] theorem State.setSleeping_regs (b : Bool) : (s.setSleeping b).regs = s.regs := rfl
@[simp] theorem State.setSleeping_pc (b : Bool) : (s.setSleeping b).pc = s.pc := rfl
@[simp] theorem State.setSleeping_lr (b : Bool) : (s.setSleeping b).lr = s.lr := rfl
@[simp] theorem State.setSleeping_sr (b : Bool) : (s.setSleeping b).sr = s.sr := rfl
@[simp] theorem State.setSleeping_vbr (b : Bool) : (s.setSleeping b).vbr = s.vbr := rfl
@[simp] theorem State.setSleeping_spc (b : Bool) : (s.setSleeping b).spc = s.spc := rfl
@[simp] theorem State.setSleeping_ssp (b : Bool) : (s.setSleeping b).ssp = s.ssp := rfl
@[simp] theorem State.setSleeping_gbr (b : Bool) : (s.setSleeping b).gbr = s.gbr := rfl
@[simp] theorem State.setSleeping_tbr (b : Bool) : (s.setSleeping b).tbr = s.tbr := rfl
@[simp] theorem State.setSleeping_exsr (b : Bool) : (s.setSleeping b).exsr = s.exsr := rfl
@[simp] theorem State.setSleeping_ssr (b : Bool) : (s.setSleeping b).ssr = s.ssr := rfl
@[simp] theorem State.setSleeping_fregs (b : Bool) : (s.setSleeping b).fregs = s.fregs := rfl
@[simp] theorem State.setSleeping_mem (b : Bool) : (s.setSleeping b).mem = s.mem := rfl
@[simp] theorem State.setSleeping_pending (b : Bool) : (s.setSleeping b).pending = s.pending := rfl
@[simp] theorem State.setSleeping_sleeping (b : Bool) : (s.setSleeping b).sleeping = b := rfl
@[simp] theorem State.setSleeping_draws (b : Bool) : (s.setSleeping b).draws = s.draws := rfl
@[simp] theorem State.setSleeping_inputs (b : Bool) : (s.setSleeping b).inputs = s.inputs := rfl
@[simp] theorem State.setSleeping_stored (b : Bool) : (s.setSleeping b).stored = s.stored := rfl
@[simp] theorem State.setSleeping_devLog (b : Bool) : (s.setSleeping b).devLog = s.devLog := rfl
@[simp] theorem State.setSleeping_reg (b : Bool) (i : Reg) : (s.setSleeping b).reg i = s.reg i := rfl
@[simp] theorem State.setSleeping_freg (b : Bool) (i : FReg) : (s.setSleeping b).freg i = s.freg i := rfl

/-! ### State.drawReg -/

@[simp] theorem State.drawReg_cfg (n : Reg) : (s.drawReg n).cfg = s.cfg := rfl
@[simp] theorem State.drawReg_regs (n : Reg) : (s.drawReg n).regs = s.regs.set n.toNat (Config.freeWord s.draws) n.isLt := rfl
@[simp] theorem State.drawReg_pc (n : Reg) : (s.drawReg n).pc = s.pc := rfl
@[simp] theorem State.drawReg_lr (n : Reg) : (s.drawReg n).lr = s.lr := rfl
@[simp] theorem State.drawReg_sr (n : Reg) : (s.drawReg n).sr = s.sr := rfl
@[simp] theorem State.drawReg_vbr (n : Reg) : (s.drawReg n).vbr = s.vbr := rfl
@[simp] theorem State.drawReg_spc (n : Reg) : (s.drawReg n).spc = s.spc := rfl
@[simp] theorem State.drawReg_ssp (n : Reg) : (s.drawReg n).ssp = s.ssp := rfl
@[simp] theorem State.drawReg_gbr (n : Reg) : (s.drawReg n).gbr = s.gbr := rfl
@[simp] theorem State.drawReg_tbr (n : Reg) : (s.drawReg n).tbr = s.tbr := rfl
@[simp] theorem State.drawReg_exsr (n : Reg) : (s.drawReg n).exsr = s.exsr := rfl
@[simp] theorem State.drawReg_ssr (n : Reg) : (s.drawReg n).ssr = s.ssr := rfl
@[simp] theorem State.drawReg_fregs (n : Reg) : (s.drawReg n).fregs = s.fregs := rfl
@[simp] theorem State.drawReg_mem (n : Reg) : (s.drawReg n).mem = s.mem := rfl
@[simp] theorem State.drawReg_pending (n : Reg) : (s.drawReg n).pending = s.pending := rfl
@[simp] theorem State.drawReg_sleeping (n : Reg) : (s.drawReg n).sleeping = s.sleeping := rfl
@[simp] theorem State.drawReg_draws (n : Reg) : (s.drawReg n).draws = s.draws + 1 := rfl
@[simp] theorem State.drawReg_inputs (n : Reg) : (s.drawReg n).inputs = s.inputs := rfl
@[simp] theorem State.drawReg_stored (n : Reg) : (s.drawReg n).stored = s.stored := rfl
@[simp] theorem State.drawReg_devLog (n : Reg) : (s.drawReg n).devLog = s.devLog := rfl
@[simp] theorem State.drawReg_freg (n : Reg) (i : FReg) : (s.drawReg n).freg i = s.freg i := rfl

/-! ### State.drawT -/

@[simp] theorem State.drawT_cfg : (s.drawT).cfg = s.cfg := rfl
@[simp] theorem State.drawT_regs : (s.drawT).regs = s.regs := rfl
@[simp] theorem State.drawT_pc : (s.drawT).pc = s.pc := rfl
@[simp] theorem State.drawT_lr : (s.drawT).lr = s.lr := rfl
@[simp] theorem State.drawT_sr : (s.drawT).sr = s.sr.withT (Config.freeBit s.draws) := rfl
@[simp] theorem State.drawT_vbr : (s.drawT).vbr = s.vbr := rfl
@[simp] theorem State.drawT_spc : (s.drawT).spc = s.spc := rfl
@[simp] theorem State.drawT_ssp : (s.drawT).ssp = s.ssp := rfl
@[simp] theorem State.drawT_gbr : (s.drawT).gbr = s.gbr := rfl
@[simp] theorem State.drawT_tbr : (s.drawT).tbr = s.tbr := rfl
@[simp] theorem State.drawT_exsr : (s.drawT).exsr = s.exsr := rfl
@[simp] theorem State.drawT_ssr : (s.drawT).ssr = s.ssr := rfl
@[simp] theorem State.drawT_fregs : (s.drawT).fregs = s.fregs := rfl
@[simp] theorem State.drawT_mem : (s.drawT).mem = s.mem := rfl
@[simp] theorem State.drawT_pending : (s.drawT).pending = s.pending := rfl
@[simp] theorem State.drawT_sleeping : (s.drawT).sleeping = s.sleeping := rfl
@[simp] theorem State.drawT_draws : (s.drawT).draws = s.draws + 1 := rfl
@[simp] theorem State.drawT_inputs : (s.drawT).inputs = s.inputs := rfl
@[simp] theorem State.drawT_stored : (s.drawT).stored = s.stored := rfl
@[simp] theorem State.drawT_devLog : (s.drawT).devLog = s.devLog := rfl
@[simp] theorem State.drawT_reg (i : Reg) : (s.drawT).reg i = s.reg i := rfl
@[simp] theorem State.drawT_freg (i : FReg) : (s.drawT).freg i = s.freg i := rfl

/-! ### State.trapEntry -/

@[simp] theorem State.trapEntry_cfg (code : Half) (off ret : Word) : (s.trapEntry code off ret).cfg = s.cfg := rfl
@[simp] theorem State.trapEntry_regs (code : Half) (off ret : Word) : (s.trapEntry code off ret).regs = s.regs := rfl
@[simp] theorem State.trapEntry_pc (code : Half) (off ret : Word) : (s.trapEntry code off ret).pc = s.vbr + off := rfl
@[simp] theorem State.trapEntry_lr (code : Half) (off ret : Word) : (s.trapEntry code off ret).lr = s.lr := rfl
@[simp] theorem State.trapEntry_sr (code : Half) (off ret : Word) : (s.trapEntry code off ret).sr = s.sr.entered := rfl
@[simp] theorem State.trapEntry_vbr (code : Half) (off ret : Word) : (s.trapEntry code off ret).vbr = s.vbr := rfl
@[simp] theorem State.trapEntry_spc (code : Half) (off ret : Word) : (s.trapEntry code off ret).spc = ret := rfl
@[simp] theorem State.trapEntry_ssp (code : Half) (off ret : Word) : (s.trapEntry code off ret).ssp = s.reg sp := rfl
@[simp] theorem State.trapEntry_gbr (code : Half) (off ret : Word) : (s.trapEntry code off ret).gbr = s.gbr := rfl
@[simp] theorem State.trapEntry_tbr (code : Half) (off ret : Word) : (s.trapEntry code off ret).tbr = s.tbr := rfl
@[simp] theorem State.trapEntry_exsr (code : Half) (off ret : Word) : (s.trapEntry code off ret).exsr = code.setWidth 32 := rfl
@[simp] theorem State.trapEntry_ssr (code : Half) (off ret : Word) : (s.trapEntry code off ret).ssr = s.sr.toWord := rfl
@[simp] theorem State.trapEntry_fregs (code : Half) (off ret : Word) : (s.trapEntry code off ret).fregs = s.fregs := rfl
@[simp] theorem State.trapEntry_mem (code : Half) (off ret : Word) : (s.trapEntry code off ret).mem = s.mem := rfl
@[simp] theorem State.trapEntry_pending (code : Half) (off ret : Word) : (s.trapEntry code off ret).pending = s.pending := rfl
@[simp] theorem State.trapEntry_sleeping (code : Half) (off ret : Word) : (s.trapEntry code off ret).sleeping = false := rfl
@[simp] theorem State.trapEntry_draws (code : Half) (off ret : Word) : (s.trapEntry code off ret).draws = s.draws := rfl
@[simp] theorem State.trapEntry_inputs (code : Half) (off ret : Word) : (s.trapEntry code off ret).inputs = s.inputs := rfl
@[simp] theorem State.trapEntry_stored (code : Half) (off ret : Word) : (s.trapEntry code off ret).stored = s.stored := rfl
@[simp] theorem State.trapEntry_devLog (code : Half) (off ret : Word) : (s.trapEntry code off ret).devLog = s.devLog := rfl
@[simp] theorem State.trapEntry_reg (code : Half) (off ret : Word) (i : Reg) : (s.trapEntry code off ret).reg i = s.reg i := rfl
@[simp] theorem State.trapEntry_freg (code : Half) (off ret : Word) (i : FReg) : (s.trapEntry code off ret).freg i = s.freg i := rfl

/-! ### State.trapReturn -/

@[simp] theorem State.trapReturn_cfg : (s.trapReturn).cfg = s.cfg := rfl
@[simp] theorem State.trapReturn_regs : (s.trapReturn).regs = s.regs.set (sp : Reg).toNat s.ssp (sp : Reg).isLt := rfl
@[simp] theorem State.trapReturn_pc : (s.trapReturn).pc = s.spc := rfl
@[simp] theorem State.trapReturn_lr : (s.trapReturn).lr = s.lr := rfl
@[simp] theorem State.trapReturn_sr : (s.trapReturn).sr = { StatusReg.ofWord s.ssr with rb := false } := rfl
@[simp] theorem State.trapReturn_vbr : (s.trapReturn).vbr = s.vbr := rfl
@[simp] theorem State.trapReturn_spc : (s.trapReturn).spc = s.spc := rfl
@[simp] theorem State.trapReturn_ssp : (s.trapReturn).ssp = s.ssp := rfl
@[simp] theorem State.trapReturn_gbr : (s.trapReturn).gbr = s.gbr := rfl
@[simp] theorem State.trapReturn_tbr : (s.trapReturn).tbr = s.tbr := rfl
@[simp] theorem State.trapReturn_exsr : (s.trapReturn).exsr = s.exsr := rfl
@[simp] theorem State.trapReturn_ssr : (s.trapReturn).ssr = s.ssr := rfl
@[simp] theorem State.trapReturn_fregs : (s.trapReturn).fregs = s.fregs := rfl
@[simp] theorem State.trapReturn_mem : (s.trapReturn).mem = s.mem := rfl
@[simp] theorem State.trapReturn_pending : (s.trapReturn).pending = s.pending := rfl
@[simp] theorem State.trapReturn_sleeping : (s.trapReturn).sleeping = s.sleeping := rfl
@[simp] theorem State.trapReturn_draws : (s.trapReturn).draws = s.draws := rfl
@[simp] theorem State.trapReturn_inputs : (s.trapReturn).inputs = s.inputs := rfl
@[simp] theorem State.trapReturn_stored : (s.trapReturn).stored = s.stored := rfl
@[simp] theorem State.trapReturn_devLog : (s.trapReturn).devLog = s.devLog := rfl
@[simp] theorem State.trapReturn_freg (i : FReg) : (s.trapReturn).freg i = s.freg i := rfl

/-! ### State.resetFrom -/

@[simp] theorem State.resetFrom_cfg : (s.resetFrom).cfg = s.cfg := rfl
@[simp] theorem State.resetFrom_regs : (s.resetFrom).regs = s.regs := rfl
@[simp] theorem State.resetFrom_pc : (s.resetFrom).pc = s.cfg.resetVbr + 0x00#32 := rfl
@[simp] theorem State.resetFrom_lr : (s.resetFrom).lr = s.lr := rfl
@[simp] theorem State.resetFrom_sr : (s.resetFrom).sr = { s.sr with bl := true, rb := true, md := true } := rfl
@[simp] theorem State.resetFrom_vbr : (s.resetFrom).vbr = s.cfg.resetVbr := rfl
@[simp] theorem State.resetFrom_spc : (s.resetFrom).spc = s.spc := rfl
@[simp] theorem State.resetFrom_ssp : (s.resetFrom).ssp = s.ssp := rfl
@[simp] theorem State.resetFrom_gbr : (s.resetFrom).gbr = s.gbr := rfl
@[simp] theorem State.resetFrom_tbr : (s.resetFrom).tbr = s.tbr := rfl
@[simp] theorem State.resetFrom_exsr : (s.resetFrom).exsr = s.exsr := rfl
@[simp] theorem State.resetFrom_ssr : (s.resetFrom).ssr = s.ssr := rfl
@[simp] theorem State.resetFrom_fregs : (s.resetFrom).fregs = s.fregs := rfl
@[simp] theorem State.resetFrom_mem : (s.resetFrom).mem = s.mem := rfl
@[simp] theorem State.resetFrom_pending : (s.resetFrom).pending = s.pending := rfl
@[simp] theorem State.resetFrom_sleeping : (s.resetFrom).sleeping = false := rfl
@[simp] theorem State.resetFrom_draws : (s.resetFrom).draws = s.draws := rfl
@[simp] theorem State.resetFrom_inputs : (s.resetFrom).inputs = s.inputs := rfl
@[simp] theorem State.resetFrom_stored : (s.resetFrom).stored = s.stored := rfl
@[simp] theorem State.resetFrom_devLog : (s.resetFrom).devLog = s.devLog := rfl
@[simp] theorem State.resetFrom_reg (i : Reg) : (s.resetFrom).reg i = s.reg i := rfl
@[simp] theorem State.resetFrom_freg (i : FReg) : (s.resetFrom).freg i = s.freg i := rfl

/-! ### State.clobber -/

@[simp] theorem State.clobber_cfg (n : Reg) (d : Option Reg) : (s.clobber n d).cfg = s.cfg := by
  unfold State.clobber; split <;> rfl
@[simp] theorem State.clobber_pc (n : Reg) (d : Option Reg) : (s.clobber n d).pc = s.pc := by
  unfold State.clobber; split <;> rfl
@[simp] theorem State.clobber_lr (n : Reg) (d : Option Reg) : (s.clobber n d).lr = s.lr := by
  unfold State.clobber; split <;> rfl
@[simp] theorem State.clobber_sr (n : Reg) (d : Option Reg) : (s.clobber n d).sr = s.sr := by
  unfold State.clobber; split <;> rfl
@[simp] theorem State.clobber_vbr (n : Reg) (d : Option Reg) : (s.clobber n d).vbr = s.vbr := by
  unfold State.clobber; split <;> rfl
@[simp] theorem State.clobber_spc (n : Reg) (d : Option Reg) : (s.clobber n d).spc = s.spc := by
  unfold State.clobber; split <;> rfl
@[simp] theorem State.clobber_ssp (n : Reg) (d : Option Reg) : (s.clobber n d).ssp = s.ssp := by
  unfold State.clobber; split <;> rfl
@[simp] theorem State.clobber_gbr (n : Reg) (d : Option Reg) : (s.clobber n d).gbr = s.gbr := by
  unfold State.clobber; split <;> rfl
@[simp] theorem State.clobber_tbr (n : Reg) (d : Option Reg) : (s.clobber n d).tbr = s.tbr := by
  unfold State.clobber; split <;> rfl
@[simp] theorem State.clobber_exsr (n : Reg) (d : Option Reg) : (s.clobber n d).exsr = s.exsr := by
  unfold State.clobber; split <;> rfl
@[simp] theorem State.clobber_ssr (n : Reg) (d : Option Reg) : (s.clobber n d).ssr = s.ssr := by
  unfold State.clobber; split <;> rfl
@[simp] theorem State.clobber_fregs (n : Reg) (d : Option Reg) : (s.clobber n d).fregs = s.fregs := by
  unfold State.clobber; split <;> rfl
@[simp] theorem State.clobber_mem (n : Reg) (d : Option Reg) : (s.clobber n d).mem = s.mem := by
  unfold State.clobber; split <;> rfl
@[simp] theorem State.clobber_pending (n : Reg) (d : Option Reg) : (s.clobber n d).pending = s.pending := by
  unfold State.clobber; split <;> rfl
@[simp] theorem State.clobber_sleeping (n : Reg) (d : Option Reg) : (s.clobber n d).sleeping = s.sleeping := by
  unfold State.clobber; split <;> rfl
@[simp] theorem State.clobber_inputs (n : Reg) (d : Option Reg) : (s.clobber n d).inputs = s.inputs := by
  unfold State.clobber; split <;> rfl
@[simp] theorem State.clobber_stored (n : Reg) (d : Option Reg) : (s.clobber n d).stored = s.stored := by
  unfold State.clobber; split <;> rfl
@[simp] theorem State.clobber_devLog (n : Reg) (d : Option Reg) : (s.clobber n d).devLog = s.devLog := by
  unfold State.clobber; split <;> rfl
@[simp] theorem State.clobber_freg (n : Reg) (d : Option Reg) (i : FReg) : (s.clobber n d).freg i = s.freg i := by
  unfold State.clobber; split <;> rfl

/-! ### State.dlrClobber -/

@[simp] theorem State.dlrClobber_cfg (d : Option Reg) : (s.dlrClobber d).cfg = s.cfg := by
  simp [State.dlrClobber]
@[simp] theorem State.dlrClobber_pc (d : Option Reg) : (s.dlrClobber d).pc = s.pc := by
  simp [State.dlrClobber]
@[simp] theorem State.dlrClobber_lr (d : Option Reg) : (s.dlrClobber d).lr = s.lr := by
  simp [State.dlrClobber]
@[simp] theorem State.dlrClobber_sr (d : Option Reg) : (s.dlrClobber d).sr = s.sr := by
  simp [State.dlrClobber]
@[simp] theorem State.dlrClobber_vbr (d : Option Reg) : (s.dlrClobber d).vbr = s.vbr := by
  simp [State.dlrClobber]
@[simp] theorem State.dlrClobber_spc (d : Option Reg) : (s.dlrClobber d).spc = s.spc := by
  simp [State.dlrClobber]
@[simp] theorem State.dlrClobber_ssp (d : Option Reg) : (s.dlrClobber d).ssp = s.ssp := by
  simp [State.dlrClobber]
@[simp] theorem State.dlrClobber_gbr (d : Option Reg) : (s.dlrClobber d).gbr = s.gbr := by
  simp [State.dlrClobber]
@[simp] theorem State.dlrClobber_tbr (d : Option Reg) : (s.dlrClobber d).tbr = s.tbr := by
  simp [State.dlrClobber]
@[simp] theorem State.dlrClobber_exsr (d : Option Reg) : (s.dlrClobber d).exsr = s.exsr := by
  simp [State.dlrClobber]
@[simp] theorem State.dlrClobber_ssr (d : Option Reg) : (s.dlrClobber d).ssr = s.ssr := by
  simp [State.dlrClobber]
@[simp] theorem State.dlrClobber_fregs (d : Option Reg) : (s.dlrClobber d).fregs = s.fregs := by
  simp [State.dlrClobber]
@[simp] theorem State.dlrClobber_mem (d : Option Reg) : (s.dlrClobber d).mem = s.mem := by
  simp [State.dlrClobber]
@[simp] theorem State.dlrClobber_pending (d : Option Reg) : (s.dlrClobber d).pending = s.pending := by
  simp [State.dlrClobber]
@[simp] theorem State.dlrClobber_sleeping (d : Option Reg) : (s.dlrClobber d).sleeping = s.sleeping := by
  simp [State.dlrClobber]
@[simp] theorem State.dlrClobber_inputs (d : Option Reg) : (s.dlrClobber d).inputs = s.inputs := by
  simp [State.dlrClobber]
@[simp] theorem State.dlrClobber_stored (d : Option Reg) : (s.dlrClobber d).stored = s.stored := by
  simp [State.dlrClobber]
@[simp] theorem State.dlrClobber_devLog (d : Option Reg) : (s.dlrClobber d).devLog = s.devLog := by
  simp [State.dlrClobber]
@[simp] theorem State.dlrClobber_freg (d : Option Reg) (i : FReg) : (s.dlrClobber d).freg i = s.freg i := by
  simp [State.dlrClobber]

/-! ### State.movClobber -/

@[simp] theorem State.movClobber_cfg (d : Option Reg) : (s.movClobber d).cfg = s.cfg := by
  simp [State.movClobber]
@[simp] theorem State.movClobber_pc (d : Option Reg) : (s.movClobber d).pc = s.pc := by
  simp [State.movClobber]
@[simp] theorem State.movClobber_lr (d : Option Reg) : (s.movClobber d).lr = s.lr := by
  simp [State.movClobber]
@[simp] theorem State.movClobber_sr (d : Option Reg) : (s.movClobber d).sr = s.sr := by
  simp [State.movClobber]
@[simp] theorem State.movClobber_vbr (d : Option Reg) : (s.movClobber d).vbr = s.vbr := by
  simp [State.movClobber]
@[simp] theorem State.movClobber_spc (d : Option Reg) : (s.movClobber d).spc = s.spc := by
  simp [State.movClobber]
@[simp] theorem State.movClobber_ssp (d : Option Reg) : (s.movClobber d).ssp = s.ssp := by
  simp [State.movClobber]
@[simp] theorem State.movClobber_gbr (d : Option Reg) : (s.movClobber d).gbr = s.gbr := by
  simp [State.movClobber]
@[simp] theorem State.movClobber_tbr (d : Option Reg) : (s.movClobber d).tbr = s.tbr := by
  simp [State.movClobber]
@[simp] theorem State.movClobber_exsr (d : Option Reg) : (s.movClobber d).exsr = s.exsr := by
  simp [State.movClobber]
@[simp] theorem State.movClobber_ssr (d : Option Reg) : (s.movClobber d).ssr = s.ssr := by
  simp [State.movClobber]
@[simp] theorem State.movClobber_fregs (d : Option Reg) : (s.movClobber d).fregs = s.fregs := by
  simp [State.movClobber]
@[simp] theorem State.movClobber_mem (d : Option Reg) : (s.movClobber d).mem = s.mem := by
  simp [State.movClobber]
@[simp] theorem State.movClobber_pending (d : Option Reg) : (s.movClobber d).pending = s.pending := by
  simp [State.movClobber]
@[simp] theorem State.movClobber_sleeping (d : Option Reg) : (s.movClobber d).sleeping = s.sleeping := by
  simp [State.movClobber]
@[simp] theorem State.movClobber_inputs (d : Option Reg) : (s.movClobber d).inputs = s.inputs := by
  simp [State.movClobber]
@[simp] theorem State.movClobber_stored (d : Option Reg) : (s.movClobber d).stored = s.stored := by
  simp [State.movClobber]
@[simp] theorem State.movClobber_devLog (d : Option Reg) : (s.movClobber d).devLog = s.devLog := by
  simp [State.movClobber]
@[simp] theorem State.movClobber_freg (d : Option Reg) (i : FReg) : (s.movClobber d).freg i = s.freg i := by
  simp [State.movClobber]

/-! ### State.branchClobber -/

@[simp] theorem State.branchClobber_cfg : (s.branchClobber).cfg = s.cfg := rfl
@[simp] theorem State.branchClobber_pc : (s.branchClobber).pc = s.pc := rfl
@[simp] theorem State.branchClobber_lr : (s.branchClobber).lr = s.lr := rfl
@[simp] theorem State.branchClobber_vbr : (s.branchClobber).vbr = s.vbr := rfl
@[simp] theorem State.branchClobber_spc : (s.branchClobber).spc = s.spc := rfl
@[simp] theorem State.branchClobber_ssp : (s.branchClobber).ssp = s.ssp := rfl
@[simp] theorem State.branchClobber_gbr : (s.branchClobber).gbr = s.gbr := rfl
@[simp] theorem State.branchClobber_tbr : (s.branchClobber).tbr = s.tbr := rfl
@[simp] theorem State.branchClobber_exsr : (s.branchClobber).exsr = s.exsr := rfl
@[simp] theorem State.branchClobber_ssr : (s.branchClobber).ssr = s.ssr := rfl
@[simp] theorem State.branchClobber_fregs : (s.branchClobber).fregs = s.fregs := rfl
@[simp] theorem State.branchClobber_mem : (s.branchClobber).mem = s.mem := rfl
@[simp] theorem State.branchClobber_pending : (s.branchClobber).pending = s.pending := rfl
@[simp] theorem State.branchClobber_sleeping : (s.branchClobber).sleeping = s.sleeping := rfl
@[simp] theorem State.branchClobber_inputs : (s.branchClobber).inputs = s.inputs := rfl
@[simp] theorem State.branchClobber_stored : (s.branchClobber).stored = s.stored := rfl
@[simp] theorem State.branchClobber_devLog : (s.branchClobber).devLog = s.devLog := rfl
@[simp] theorem State.branchClobber_freg (i : FReg) : (s.branchClobber).freg i = s.freg i := rfl

/-! ### State.noteLoad -/

@[simp] theorem State.noteLoad_cfg (a : Word) (n : Nat) : (s.noteLoad a n).cfg = s.cfg := by
  unfold State.noteLoad; split <;> rfl
@[simp] theorem State.noteLoad_regs (a : Word) (n : Nat) : (s.noteLoad a n).regs = s.regs := by
  unfold State.noteLoad; split <;> rfl
@[simp] theorem State.noteLoad_pc (a : Word) (n : Nat) : (s.noteLoad a n).pc = s.pc := by
  unfold State.noteLoad; split <;> rfl
@[simp] theorem State.noteLoad_lr (a : Word) (n : Nat) : (s.noteLoad a n).lr = s.lr := by
  unfold State.noteLoad; split <;> rfl
@[simp] theorem State.noteLoad_sr (a : Word) (n : Nat) : (s.noteLoad a n).sr = s.sr := by
  unfold State.noteLoad; split <;> rfl
@[simp] theorem State.noteLoad_vbr (a : Word) (n : Nat) : (s.noteLoad a n).vbr = s.vbr := by
  unfold State.noteLoad; split <;> rfl
@[simp] theorem State.noteLoad_spc (a : Word) (n : Nat) : (s.noteLoad a n).spc = s.spc := by
  unfold State.noteLoad; split <;> rfl
@[simp] theorem State.noteLoad_ssp (a : Word) (n : Nat) : (s.noteLoad a n).ssp = s.ssp := by
  unfold State.noteLoad; split <;> rfl
@[simp] theorem State.noteLoad_gbr (a : Word) (n : Nat) : (s.noteLoad a n).gbr = s.gbr := by
  unfold State.noteLoad; split <;> rfl
@[simp] theorem State.noteLoad_tbr (a : Word) (n : Nat) : (s.noteLoad a n).tbr = s.tbr := by
  unfold State.noteLoad; split <;> rfl
@[simp] theorem State.noteLoad_exsr (a : Word) (n : Nat) : (s.noteLoad a n).exsr = s.exsr := by
  unfold State.noteLoad; split <;> rfl
@[simp] theorem State.noteLoad_ssr (a : Word) (n : Nat) : (s.noteLoad a n).ssr = s.ssr := by
  unfold State.noteLoad; split <;> rfl
@[simp] theorem State.noteLoad_fregs (a : Word) (n : Nat) : (s.noteLoad a n).fregs = s.fregs := by
  unfold State.noteLoad; split <;> rfl
@[simp] theorem State.noteLoad_mem (a : Word) (n : Nat) : (s.noteLoad a n).mem = s.mem := by
  unfold State.noteLoad; split <;> rfl
@[simp] theorem State.noteLoad_pending (a : Word) (n : Nat) : (s.noteLoad a n).pending = s.pending := by
  unfold State.noteLoad; split <;> rfl
@[simp] theorem State.noteLoad_sleeping (a : Word) (n : Nat) : (s.noteLoad a n).sleeping = s.sleeping := by
  unfold State.noteLoad; split <;> rfl
@[simp] theorem State.noteLoad_inputs (a : Word) (n : Nat) : (s.noteLoad a n).inputs = s.inputs := by
  unfold State.noteLoad; split <;> rfl
@[simp] theorem State.noteLoad_stored (a : Word) (n : Nat) : (s.noteLoad a n).stored = s.stored := by
  unfold State.noteLoad; split <;> rfl
@[simp] theorem State.noteLoad_reg (a : Word) (n : Nat) (i : Reg) : (s.noteLoad a n).reg i = s.reg i := by
  unfold State.noteLoad; split <;> rfl
@[simp] theorem State.noteLoad_freg (a : Word) (n : Nat) (i : FReg) : (s.noteLoad a n).freg i = s.freg i := by
  unfold State.noteLoad; split <;> rfl

/-! ### State.faultDrawn -/

@[simp] theorem State.faultDrawn_cfg : (s.faultDrawn).cfg = s.cfg := by
  unfold State.faultDrawn; split <;> rfl
@[simp] theorem State.faultDrawn_regs : (s.faultDrawn).regs = s.regs := by
  unfold State.faultDrawn; split <;> rfl
@[simp] theorem State.faultDrawn_pc : (s.faultDrawn).pc = s.pc := by
  unfold State.faultDrawn; split <;> rfl
@[simp] theorem State.faultDrawn_lr : (s.faultDrawn).lr = s.lr := by
  unfold State.faultDrawn; split <;> rfl
@[simp] theorem State.faultDrawn_sr : (s.faultDrawn).sr = s.sr := by
  unfold State.faultDrawn; split <;> rfl
@[simp] theorem State.faultDrawn_vbr : (s.faultDrawn).vbr = s.vbr := by
  unfold State.faultDrawn; split <;> rfl
@[simp] theorem State.faultDrawn_spc : (s.faultDrawn).spc = s.spc := by
  unfold State.faultDrawn; split <;> rfl
@[simp] theorem State.faultDrawn_ssp : (s.faultDrawn).ssp = s.ssp := by
  unfold State.faultDrawn; split <;> rfl
@[simp] theorem State.faultDrawn_gbr : (s.faultDrawn).gbr = s.gbr := by
  unfold State.faultDrawn; split <;> rfl
@[simp] theorem State.faultDrawn_tbr : (s.faultDrawn).tbr = s.tbr := by
  unfold State.faultDrawn; split <;> rfl
@[simp] theorem State.faultDrawn_exsr : (s.faultDrawn).exsr = s.exsr := by
  unfold State.faultDrawn; split <;> rfl
@[simp] theorem State.faultDrawn_ssr : (s.faultDrawn).ssr = s.ssr := by
  unfold State.faultDrawn; split <;> rfl
@[simp] theorem State.faultDrawn_fregs : (s.faultDrawn).fregs = s.fregs := by
  unfold State.faultDrawn; split <;> rfl
@[simp] theorem State.faultDrawn_mem : (s.faultDrawn).mem = s.mem := by
  unfold State.faultDrawn; split <;> rfl
@[simp] theorem State.faultDrawn_pending : (s.faultDrawn).pending = s.pending := by
  unfold State.faultDrawn; split <;> rfl
@[simp] theorem State.faultDrawn_sleeping : (s.faultDrawn).sleeping = s.sleeping := by
  unfold State.faultDrawn; split <;> rfl
@[simp] theorem State.faultDrawn_inputs : (s.faultDrawn).inputs = s.inputs := by
  unfold State.faultDrawn; split <;> rfl
@[simp] theorem State.faultDrawn_stored : (s.faultDrawn).stored = s.stored := by
  unfold State.faultDrawn; split <;> rfl
@[simp] theorem State.faultDrawn_devLog : (s.faultDrawn).devLog = s.devLog := by
  unfold State.faultDrawn; split <;> rfl
@[simp] theorem State.faultDrawn_reg (i : Reg) : (s.faultDrawn).reg i = s.reg i := by
  unfold State.faultDrawn; split <;> rfl
@[simp] theorem State.faultDrawn_freg (i : FReg) : (s.faultDrawn).freg i = s.freg i := by
  unfold State.faultDrawn; split <;> rfl

/-! ### State.present -/

@[simp] theorem State.present_cfg : (s.present).cfg = s.cfg := by
  unfold State.present; split <;> rfl
@[simp] theorem State.present_regs : (s.present).regs = s.regs := by
  unfold State.present; split <;> rfl
@[simp] theorem State.present_pc : (s.present).pc = s.pc := by
  unfold State.present; split <;> rfl
@[simp] theorem State.present_lr : (s.present).lr = s.lr := by
  unfold State.present; split <;> rfl
@[simp] theorem State.present_sr : (s.present).sr = s.sr := by
  unfold State.present; split <;> rfl
@[simp] theorem State.present_vbr : (s.present).vbr = s.vbr := by
  unfold State.present; split <;> rfl
@[simp] theorem State.present_spc : (s.present).spc = s.spc := by
  unfold State.present; split <;> rfl
@[simp] theorem State.present_ssp : (s.present).ssp = s.ssp := by
  unfold State.present; split <;> rfl
@[simp] theorem State.present_gbr : (s.present).gbr = s.gbr := by
  unfold State.present; split <;> rfl
@[simp] theorem State.present_tbr : (s.present).tbr = s.tbr := by
  unfold State.present; split <;> rfl
@[simp] theorem State.present_exsr : (s.present).exsr = s.exsr := by
  unfold State.present; split <;> rfl
@[simp] theorem State.present_ssr : (s.present).ssr = s.ssr := by
  unfold State.present; split <;> rfl
@[simp] theorem State.present_fregs : (s.present).fregs = s.fregs := by
  unfold State.present; split <;> rfl
@[simp] theorem State.present_mem : (s.present).mem = s.mem := by
  unfold State.present; split <;> rfl
@[simp] theorem State.present_sleeping : (s.present).sleeping = s.sleeping := by
  unfold State.present; split <;> rfl
@[simp] theorem State.present_draws : (s.present).draws = s.draws := by
  unfold State.present; split <;> rfl
@[simp] theorem State.present_stored : (s.present).stored = s.stored := by
  unfold State.present; split <;> rfl
@[simp] theorem State.present_devLog : (s.present).devLog = s.devLog := by
  unfold State.present; split <;> rfl
@[simp] theorem State.present_reg (i : Reg) : (s.present).reg i = s.reg i := by
  unfold State.present; split <;> rfl
@[simp] theorem State.present_freg (i : FReg) : (s.present).freg i = s.freg i := by
  unfold State.present; split <;> rfl

/-! ### State.storeCell -/

@[simp] theorem State.storeCell_cfg (c : Host.Cell) : (s.storeCell c).cfg = s.cfg := by
  unfold State.storeCell; split <;> rfl
@[simp] theorem State.storeCell_regs (c : Host.Cell) : (s.storeCell c).regs = s.regs := by
  unfold State.storeCell; split <;> rfl
@[simp] theorem State.storeCell_pc (c : Host.Cell) : (s.storeCell c).pc = s.pc := by
  unfold State.storeCell; split <;> rfl
@[simp] theorem State.storeCell_lr (c : Host.Cell) : (s.storeCell c).lr = s.lr := by
  unfold State.storeCell; split <;> rfl
@[simp] theorem State.storeCell_sr (c : Host.Cell) : (s.storeCell c).sr = s.sr := by
  unfold State.storeCell; split <;> rfl
@[simp] theorem State.storeCell_vbr (c : Host.Cell) : (s.storeCell c).vbr = s.vbr := by
  unfold State.storeCell; split <;> rfl
@[simp] theorem State.storeCell_spc (c : Host.Cell) : (s.storeCell c).spc = s.spc := by
  unfold State.storeCell; split <;> rfl
@[simp] theorem State.storeCell_ssp (c : Host.Cell) : (s.storeCell c).ssp = s.ssp := by
  unfold State.storeCell; split <;> rfl
@[simp] theorem State.storeCell_gbr (c : Host.Cell) : (s.storeCell c).gbr = s.gbr := by
  unfold State.storeCell; split <;> rfl
@[simp] theorem State.storeCell_tbr (c : Host.Cell) : (s.storeCell c).tbr = s.tbr := by
  unfold State.storeCell; split <;> rfl
@[simp] theorem State.storeCell_exsr (c : Host.Cell) : (s.storeCell c).exsr = s.exsr := by
  unfold State.storeCell; split <;> rfl
@[simp] theorem State.storeCell_ssr (c : Host.Cell) : (s.storeCell c).ssr = s.ssr := by
  unfold State.storeCell; split <;> rfl
@[simp] theorem State.storeCell_fregs (c : Host.Cell) : (s.storeCell c).fregs = s.fregs := by
  unfold State.storeCell; split <;> rfl
@[simp] theorem State.storeCell_pending (c : Host.Cell) : (s.storeCell c).pending = s.pending := by
  unfold State.storeCell; split <;> rfl
@[simp] theorem State.storeCell_sleeping (c : Host.Cell) : (s.storeCell c).sleeping = s.sleeping := by
  unfold State.storeCell; split <;> rfl
@[simp] theorem State.storeCell_draws (c : Host.Cell) : (s.storeCell c).draws = s.draws := by
  unfold State.storeCell; split <;> rfl
@[simp] theorem State.storeCell_inputs (c : Host.Cell) : (s.storeCell c).inputs = s.inputs := by
  unfold State.storeCell; split <;> rfl
@[simp] theorem State.storeCell_devLog (c : Host.Cell) : (s.storeCell c).devLog = s.devLog := by
  unfold State.storeCell; split <;> rfl
@[simp] theorem State.storeCell_reg (c : Host.Cell) (i : Reg) : (s.storeCell c).reg i = s.reg i := by
  unfold State.storeCell; split <;> rfl
@[simp] theorem State.storeCell_freg (c : Host.Cell) (i : FReg) : (s.storeCell c).freg i = s.freg i := by
  unfold State.storeCell; split <;> rfl

/-! ### Registers read after a write -/

/-- Reading a register after writing one. -/
theorem State.setReg_reg (n i : Reg) (v : Word) : (s.setReg n v).reg i = if i = n then v else s.reg i := by
  simp only [State.reg, State.setReg, Vector.getElem_set]
  by_cases h : i = n
  · simp [h]
  · rw [if_neg (fun hn => h (BitVec.eq_of_toNat_eq hn.symm)), if_neg h]

@[simp] theorem State.setReg_reg_same (n : Reg) (v : Word) : (s.setReg n v).reg n = v := by simp [State.setReg_reg]

theorem State.setReg_reg_ne {n i : Reg} (h : i ≠ n) (v : Word) : (s.setReg n v).reg i = s.reg i := by
  simp [State.setReg_reg, h]

/-- Reading an FPU register after writing one. -/
theorem State.setFreg_freg (n i : FReg) (v : DWord) :
    (s.setFreg n v).freg i = if i = n then v else s.freg i := by
  simp only [State.freg, State.setFreg, Vector.getElem_set]
  by_cases h : i = n
  · simp [h]
  · rw [if_neg (fun hn => h (BitVec.eq_of_toNat_eq hn.symm)), if_neg h]

@[simp] theorem State.setFreg_freg_same (n : FReg) (v : DWord) : (s.setFreg n v).freg n = v := by
  simp [State.setFreg_freg]

/-- Reading a register after drawing one. -/
theorem State.drawReg_reg (n i : Reg) :
    (s.drawReg n).reg i = if i = n then Config.freeWord s.draws else s.reg i :=
  s.setReg_reg n i _

/-- A clobber leaves every other register. -/
theorem State.clobber_reg_ne {n i : Reg} (h : i ≠ n) (d : Option Reg) : (s.clobber n d).reg i = s.reg i := by
  unfold State.clobber; split
  · rfl
  · rw [State.drawReg_reg, if_neg h]

/-- A clobber leaves the named destination. -/
@[simp] theorem State.clobber_reg_dst (n i : Reg) : (s.clobber n (some i)).reg i = s.reg i := by
  unfold State.clobber; split
  · rfl
  · rename_i h
    rw [State.drawReg_reg, if_neg (fun e => h (by rw [e]))]

/-- A clobbered register holds a fresh free word. -/
theorem State.clobber_reg_same {n : Reg} {d : Option Reg} (h : d ≠ some n) :
    (s.clobber n d).reg n = Config.freeWord s.draws := by
  simp [State.clobber, h, State.drawReg_reg]

/-- The number of draws of a clobber. -/
theorem State.clobber_draws (n : Reg) (d : Option Reg) :
    (s.clobber n d).draws = if d = some n then s.draws else s.draws + 1 := by
  unfold State.clobber; split <;> rfl

/-- The clobber of a use of DLR leaves every other register. -/
theorem State.dlrClobber_reg_ne {i : Reg} (h : i ≠ dlr) (d : Option Reg) : (s.dlrClobber d).reg i = s.reg i :=
  s.clobber_reg_ne h d

@[simp] theorem State.dlrClobber_reg_dst (i : Reg) : (s.dlrClobber (some i)).reg i = s.reg i :=
  s.clobber_reg_dst dlr i

/-- The clobber of a MOV.x leaves every register but DLR and DHR. -/
theorem State.movClobber_reg_ne {i : Reg} (h0 : i ≠ dlr) (h1 : i ≠ dhr) (d : Option Reg) :
    (s.movClobber d).reg i = s.reg i := by
  rw [State.movClobber, State.clobber_reg_ne _ h1, State.clobber_reg_ne _ h0]

/-- The clobber of a MOV.x leaves the named destination. -/
@[simp] theorem State.movClobber_reg_dst (i : Reg) : (s.movClobber (some i)).reg i = s.reg i := by
  simp [State.movClobber]

/-- The clobber of a branch leaves every register but DLR and DHR. -/
theorem State.branchClobber_reg_ne {i : Reg} (h0 : i ≠ dlr) (h1 : i ≠ dhr) : s.branchClobber.reg i = s.reg i := by
  rw [State.branchClobber, State.drawT_reg, State.drawReg_reg, if_neg h1, State.drawReg_reg, if_neg h0]

@[simp] theorem State.branchClobber_sr :
    s.branchClobber.sr = s.sr.withT (Config.freeBit (s.draws + 2)) := rfl

end Sys2Proof.Machine
end

