-- ==== Sys2Proof/Laws/Ops.lean ====
section
/-! SUPPORT. What each shared operation can do, said once: the checks of an access, the bytes a load reads, the bytes a
store writes, and the outcomes of a whole load, store, exception and return. -/

namespace Sys2Proof.Machine

variable (s : State)

/-! ### Addresses and checks -/

theorem byteAddr_lt (a : Word) (i : Nat) : byteAddr a i < 4294967296 := (a + BitVec.ofNat 32 i).isLt

theorem mem_accessAddrs {a : Word} {n b : Nat} : b ∈ accessAddrs a n ↔ ∃ i < n, byteAddr a i = b := by
  simp [accessAddrs]

theorem accessAddrs_all_lt {a : Word} {n b : Nat} (h : b ∈ accessAddrs a n) : b < 4294967296 := by
  obtain ⟨i, -, rfl⟩ := mem_accessAddrs.1 h
  exact byteAddr_lt a i

/-- A check that fails says which: misaligned, a byte that does not exist, or a byte without the permission, in this
order; a check that passes says that none is (20_memory.md R63, R64). -/
theorem State.checkAccess_cases (a : Word) (n : Nat) (al : Region → Bool) (mis den : Half) :
    (s.checkAccess a n al mis den = some mis ∧ s.cfg.misalignedOk = false ∧ a.toNat % n ≠ 0) ∨
    ((s.cfg.misalignedOk = true ∨ a.toNat % n = 0) ∧
      ((s.checkAccess a n al mis den = some 0x8000#16 ∧ ∃ i < n, regionAt s.cfg (byteAddr a i) = none) ∨
       (s.checkAccess a n al mis den = some den ∧ (∀ i < n, ∃ r, regionAt s.cfg (byteAddr a i) = some r) ∧
         ∃ i < n, ∃ r, regionAt s.cfg (byteAddr a i) = some r ∧ al r = false) ∨
       (s.checkAccess a n al mis den = none ∧
         ∀ i < n, ∃ r, regionAt s.cfg (byteAddr a i) = some r ∧ al r = true))) := by
  by_cases h1 : s.cfg.misalignedOk = false ∧ a.toNat % n ≠ 0
  · left; exact ⟨by simp [State.checkAccess, h1.1, h1.2], h1⟩
  · right
    have h1' : (!s.cfg.misalignedOk && a.toNat % n != 0) = false := by
      rw [Bool.eq_false_iff]; simpa [not_and] using h1
    refine ⟨?_, ?_⟩
    · by_cases h : s.cfg.misalignedOk = true
      · exact .inl h
      · right; by_contra h2; exact h1 ⟨by simpa using h, h2⟩
    · have e : s.checkAccess a n al mis den =
          if (accessAddrs a n).any fun b => (regionAt s.cfg b).isNone then some 0x8000#16
          else if (accessAddrs a n).any fun b => !(regionAt s.cfg b).any al then some den else none := by
        simp [State.checkAccess, h1']
      rw [e]
      by_cases h2 : ∃ i < n, regionAt s.cfg (byteAddr a i) = none
      · left
        refine ⟨?_, h2⟩
        obtain ⟨i, hi, hn⟩ := h2
        rw [if_pos]
        exact List.any_eq_true.2 ⟨_, mem_accessAddrs.2 ⟨i, hi, rfl⟩, by simp [hn]⟩
      · have h2' : ((accessAddrs a n).any fun b => (regionAt s.cfg b).isNone) = false := by
          rw [Bool.eq_false_iff]; intro h
          obtain ⟨b, hb, hn⟩ := List.any_eq_true.1 h
          obtain ⟨i, hi, rfl⟩ := mem_accessAddrs.1 hb
          exact h2 ⟨i, hi, by simpa using hn⟩
        have ex : ∀ i < n, ∃ r, regionAt s.cfg (byteAddr a i) = some r := fun i hi => by
          cases hr : regionAt s.cfg (byteAddr a i) with
          | none => exact absurd ⟨i, hi, hr⟩ h2
          | some r => exact ⟨r, rfl⟩
        right
        rw [if_neg (by simp [h2'])]
        by_cases h3 : ∃ i < n, ∃ r, regionAt s.cfg (byteAddr a i) = some r ∧ al r = false
        · left
          refine ⟨?_, ex, h3⟩
          obtain ⟨i, hi, r, hr, ha⟩ := h3
          rw [if_pos]
          exact List.any_eq_true.2 ⟨_, mem_accessAddrs.2 ⟨i, hi, rfl⟩, by simp [hr, ha]⟩
        · right
          have all : ∀ i < n, ∃ r, regionAt s.cfg (byteAddr a i) = some r ∧ al r = true := fun i hi => by
            obtain ⟨r, hr⟩ := ex i hi
            refine ⟨r, hr, ?_⟩
            by_contra h; exact h3 ⟨i, hi, r, hr, by simpa using h⟩
          refine ⟨?_, all⟩
          rw [if_neg]
          intro h
          obtain ⟨b, hb, hn⟩ := List.any_eq_true.1 h
          obtain ⟨i, hi, rfl⟩ := mem_accessAddrs.1 hb
          obtain ⟨r, hr, ha⟩ := all i hi
          simp [hr, ha] at hn

/-- An access passes its checks exactly when it is aligned (or need not be) and every byte exists and is allowed. -/
theorem State.checkAccess_eq_none {a : Word} {n : Nat} {al : Region → Bool} {mis den : Half} :
    s.checkAccess a n al mis den = none ↔
      (s.cfg.misalignedOk = true ∨ a.toNat % n = 0) ∧
      ∀ i < n, ∃ r, regionAt s.cfg (byteAddr a i) = some r ∧ al r = true := by
  constructor
  · intro h
    rcases s.checkAccess_cases a n al mis den with ⟨e, -⟩ | ⟨h1, ⟨e, -⟩ | ⟨e, -⟩ | ⟨-, h2⟩⟩
    · simp [h] at e
    · simp [h] at e
    · simp [h] at e
    · exact ⟨h1, h2⟩
  · rintro ⟨h1, h2⟩
    rcases s.checkAccess_cases a n al mis den with ⟨-, e1, e2⟩ | ⟨-, ⟨-, i, hi, e⟩ | ⟨-, -, i, hi, r, e, e'⟩ | ⟨e, -⟩⟩
    · rcases h1 with h | h
      · simp [h] at e1
      · exact absurd h e2
    · obtain ⟨r, hr, -⟩ := h2 i hi; simp [hr] at e
    · obtain ⟨q, hq, ha⟩ := h2 i hi; rw [hq] at e; cases e; simp [ha] at e'
    · exact e

/-- The codes a failing check can give; a one-byte access is never misaligned (20_memory.md R66). -/
theorem State.checkAccess_code {a : Word} {n : Nat} {al : Region → Bool} {mis den code : Half}
    (h : s.checkAccess a n al mis den = some code) :
    (code = mis ∧ n ≠ 1) ∨ code = 0x8000#16 ∨ code = den := by
  rcases s.checkAccess_cases a n al mis den with ⟨e, -, e2⟩ | ⟨-, ⟨e, -⟩ | ⟨e, -⟩ | ⟨e, -⟩⟩ <;> rw [h] at e <;>
    simp only [Option.some.injEq, reduceCtorEq] at e
  · exact .inl ⟨e, fun hn => e2 (by rw [hn, Nat.mod_one])⟩
  · exact .inr (.inl e)
  · exact .inr (.inr e)

/-! ### Loads -/

/-- A data read that answers has passed its checks, and gives the bytes at the address. -/
theorem State.memRead_ok {a : Word} {n : Nat} {bs : List Byte} {t : State} (h : s.memRead a n = .ok (bs, t)) :
    s.checkAccess a n Region.read 0x8009#16 0x8001#16 = none ∧ bs = s.loadBytes a n ∧ t = s.noteLoad a n := by
  unfold State.memRead at h
  split at h
  · cases h
  · rename_i e; cases h; exact ⟨e, rfl, rfl⟩

/-- A data read that raises has failed its checks. -/
theorem State.memRead_error {a : Word} {n : Nat} {code : Half} :
    s.memRead a n = .error code ↔ s.checkAccess a n Region.read 0x8009#16 0x8001#16 = some code := by
  unfold State.memRead
  split <;> simp [*]

/-- A data write that answers has passed its checks, and has stored the bytes. -/
theorem State.memWrite_ok {w : Nat} {a : Word} {n : Nat} {v : BitVec w} {t : State} (h : s.memWrite a n v = .ok t) :
    s.checkAccess a n Region.write 0x800A#16 0x8002#16 = none ∧ t = s.storeCells (cellsOf a n v) := by
  unfold State.memWrite at h
  split at h
  · cases h
  · rename_i e; cases h; exact ⟨e, rfl⟩

/-- A data write that raises has failed its checks. -/
theorem State.memWrite_error {w : Nat} {a : Word} {n : Nat} {v : BitVec w} {code : Half} :
    s.memWrite a n v = .error code ↔ s.checkAccess a n Region.write 0x800A#16 0x8002#16 = some code := by
  unfold State.memWrite
  split <;> simp [*]

/-- A load runs, or raises the code of the check that failed. -/
theorem State.loadThen_cases (a : Word) (n : Nat) (done : List Byte → State → State) :
    (s.checkAccess a n Region.read 0x8009#16 0x8001#16 = none ∧
      s.loadThen a n done = .next (done (s.loadBytes a n) (s.noteLoad a n))) ∨
    ∃ code, s.checkAccess a n Region.read 0x8009#16 0x8001#16 = some code ∧ s.loadThen a n done = s.raise code := by
  unfold State.loadThen State.memRead
  cases s.checkAccess a n Region.read 0x8009#16 0x8001#16 with
  | none => exact .inl ⟨rfl, rfl⟩
  | some code => exact .inr ⟨code, rfl, rfl⟩

/-- A store runs, or raises the code of the check that failed. -/
theorem State.storeThen_cases {w : Nat} (a : Word) (n : Nat) (v : BitVec w) (done : State → State) :
    (s.checkAccess a n Region.write 0x800A#16 0x8002#16 = none ∧
      s.storeThen a n v done = .next (done (s.storeCells (cellsOf a n v)))) ∨
    ∃ code, s.checkAccess a n Region.write 0x800A#16 0x8002#16 = some code ∧ s.storeThen a n v done = s.raise code := by
  unfold State.storeThen State.memWrite
  cases s.checkAccess a n Region.write 0x800A#16 0x8002#16 with
  | none => exact .inl ⟨rfl, rfl⟩
  | some code => exact .inr ⟨code, rfl, rfl⟩

/-- Loads never lower the draw counter. -/
theorem State.noteLoad_draws_le (a : Word) (n : Nat) : s.draws ≤ (s.noteLoad a n).draws := by
  unfold State.noteLoad; split
  · exact Nat.le_add_right ..
  · exact Nat.le_refl _

/-- A load that touches no device shows the environment nothing. -/
theorem State.noteLoad_devLog {a : Word} {n : Nat} (h : ∀ b ∈ accessAddrs a n, s.isDevice b = false) :
    (s.noteLoad a n).devLog = s.devLog := by
  unfold State.noteLoad
  rw [if_neg]
  simp only [List.any_eq_true, not_exists, not_and, Bool.not_eq_true]
  exact h

/-! ### Stores -/

theorem State.foldStore_shape (cs : List Host.Cell) :
    ∃ m st, cs.foldl State.storeCell s = { s with mem := m, stored := st } := by
  induction cs generalizing s with
  | nil => exact ⟨s.mem, s.stored, rfl⟩
  | cons c cs ih =>
    obtain ⟨m, st, h⟩ := ih (s.storeCell c)
    rw [List.foldl_cons, h]
    unfold State.storeCell
    split <;> exact ⟨m, st, rfl⟩

/-- A store changes the memory, the list of stored addresses and what the environment has seen, and nothing else. -/
theorem State.storeCells_shape (cs : List Host.Cell) :
    ∃ m st dl, s.storeCells cs = { s with mem := m, stored := st, devLog := dl } := by
  obtain ⟨m, st, h⟩ := s.foldStore_shape cs
  unfold State.storeCells
  simp only [h]
  split <;> exact ⟨_, _, _, rfl⟩

@[simp] theorem State.storeCells_cfg (cs : List Host.Cell) : (s.storeCells cs).cfg = s.cfg := by
  obtain ⟨m, st, dl, h⟩ := s.storeCells_shape cs; rw [h]
@[simp] theorem State.storeCells_regs (cs : List Host.Cell) : (s.storeCells cs).regs = s.regs := by
  obtain ⟨m, st, dl, h⟩ := s.storeCells_shape cs; rw [h]
@[simp] theorem State.storeCells_pc (cs : List Host.Cell) : (s.storeCells cs).pc = s.pc := by
  obtain ⟨m, st, dl, h⟩ := s.storeCells_shape cs; rw [h]
@[simp] theorem State.storeCells_lr (cs : List Host.Cell) : (s.storeCells cs).lr = s.lr := by
  obtain ⟨m, st, dl, h⟩ := s.storeCells_shape cs; rw [h]
@[simp] theorem State.storeCells_sr (cs : List Host.Cell) : (s.storeCells cs).sr = s.sr := by
  obtain ⟨m, st, dl, h⟩ := s.storeCells_shape cs; rw [h]
@[simp] theorem State.storeCells_vbr (cs : List Host.Cell) : (s.storeCells cs).vbr = s.vbr := by
  obtain ⟨m, st, dl, h⟩ := s.storeCells_shape cs; rw [h]
@[simp] theorem State.storeCells_spc (cs : List Host.Cell) : (s.storeCells cs).spc = s.spc := by
  obtain ⟨m, st, dl, h⟩ := s.storeCells_shape cs; rw [h]
@[simp] theorem State.storeCells_ssp (cs : List Host.Cell) : (s.storeCells cs).ssp = s.ssp := by
  obtain ⟨m, st, dl, h⟩ := s.storeCells_shape cs; rw [h]
@[simp] theorem State.storeCells_gbr (cs : List Host.Cell) : (s.storeCells cs).gbr = s.gbr := by
  obtain ⟨m, st, dl, h⟩ := s.storeCells_shape cs; rw [h]
@[simp] theorem State.storeCells_tbr (cs : List Host.Cell) : (s.storeCells cs).tbr = s.tbr := by
  obtain ⟨m, st, dl, h⟩ := s.storeCells_shape cs; rw [h]
@[simp] theorem State.storeCells_exsr (cs : List Host.Cell) : (s.storeCells cs).exsr = s.exsr := by
  obtain ⟨m, st, dl, h⟩ := s.storeCells_shape cs; rw [h]
@[simp] theorem State.storeCells_ssr (cs : List Host.Cell) : (s.storeCells cs).ssr = s.ssr := by
  obtain ⟨m, st, dl, h⟩ := s.storeCells_shape cs; rw [h]
@[simp] theorem State.storeCells_fregs (cs : List Host.Cell) : (s.storeCells cs).fregs = s.fregs := by
  obtain ⟨m, st, dl, h⟩ := s.storeCells_shape cs; rw [h]
@[simp] theorem State.storeCells_pending (cs : List Host.Cell) : (s.storeCells cs).pending = s.pending := by
  obtain ⟨m, st, dl, h⟩ := s.storeCells_shape cs; rw [h]
@[simp] theorem State.storeCells_sleeping (cs : List Host.Cell) : (s.storeCells cs).sleeping = s.sleeping := by
  obtain ⟨m, st, dl, h⟩ := s.storeCells_shape cs; rw [h]
@[simp] theorem State.storeCells_draws (cs : List Host.Cell) : (s.storeCells cs).draws = s.draws := by
  obtain ⟨m, st, dl, h⟩ := s.storeCells_shape cs; rw [h]
@[simp] theorem State.storeCells_inputs (cs : List Host.Cell) : (s.storeCells cs).inputs = s.inputs := by
  obtain ⟨m, st, dl, h⟩ := s.storeCells_shape cs; rw [h]
@[simp] theorem State.storeCells_reg (cs : List Host.Cell) (i : Reg) : (s.storeCells cs).reg i = s.reg i := by
  obtain ⟨m, st, dl, h⟩ := s.storeCells_shape cs; rw [h]; rfl
@[simp] theorem State.storeCells_freg (cs : List Host.Cell) (i : FReg) : (s.storeCells cs).freg i = s.freg i := by
  obtain ⟨m, st, dl, h⟩ := s.storeCells_shape cs; rw [h]; rfl

@[simp] theorem State.storeCells_isDevice (cs : List Host.Cell) (a : Nat) :
    (s.storeCells cs).isDevice a = s.isDevice a := by
  simp only [State.isDevice, State.storeCells_cfg]

theorem State.storeCells_mem (cs : List Host.Cell) : (s.storeCells cs).mem = (cs.foldl State.storeCell s).mem := by
  unfold State.storeCells; split <;> rfl

/-- A store leaves every byte at no address of it. -/
theorem State.storeCells_read_outside (cs : List Host.Cell) (b : Nat) (h : ∀ c ∈ cs, c.1 ≠ b) :
    (s.storeCells cs).mem.read b = s.mem.read b := by
  rw [State.storeCells_mem]
  induction cs generalizing s with
  | nil => rfl
  | cons c cs ih =>
    rw [List.foldl_cons, ih _ (fun d hd => h d (List.mem_cons_of_mem _ hd))]
    unfold State.storeCell
    split
    · rfl
    · exact Memory.read_write_ne (fun e => h c List.mem_cons_self e.symm) ..

theorem State.storeCell_isDevice (c : Host.Cell) (a : Nat) : (s.storeCell c).isDevice a = s.isDevice a := by
  simp only [State.isDevice, State.storeCell_cfg]

/-- A stored byte stands where no device is, when the addresses of the store are distinct. -/
theorem State.storeCells_read_inside (cs : List Host.Cell) (d : (cs.map (·.1)).Nodup) {c : Host.Cell} (hc : c ∈ cs)
    (hd : s.isDevice c.1 = false) : (s.storeCells cs).mem.read c.1 = c.2 := by
  rw [State.storeCells_mem]
  induction cs generalizing s with
  | nil => cases hc
  | cons e cs ih =>
    simp only [List.map_cons, List.nodup_cons] at d
    rw [List.foldl_cons]
    rcases List.mem_cons.1 hc with rfl | hc
    · rw [← State.storeCells_mem, State.storeCells_read_outside]
      · simp [State.storeCell, hd]
      · intro f hf e; exact d.1 (List.mem_map.2 ⟨f, hf, e⟩)
    · exact ih _ d.2 hc (by rw [State.storeCell_isDevice]; exact hd)

theorem cellsOf_addrs {w : Nat} (a : Word) (n : Nat) (v : BitVec w) : (cellsOf a n v).map (·.1) = accessAddrs a n := by
  simp [cellsOf, accessAddrs, Function.comp_def]

/-- The addresses of an access of at most 2^32 bytes are distinct. -/
theorem accessAddrs_nodup (a : Word) {n : Nat} (hn : n ≤ 4294967296) : (accessAddrs a n).Nodup := by
  unfold accessAddrs
  refine List.Nodup.map_on ?_ List.nodup_range
  intro i hi j hj e
  have hi' := List.mem_range.1 hi
  have hj' := List.mem_range.1 hj
  simp only [byteAddr, BitVec.toNat_add, BitVec.toNat_ofNat] at e
  omega

/-- Storing a value leaves every byte outside its addresses. -/
theorem State.storeCells_cellsOf_outside {w : Nat} (a : Word) (n : Nat) (v : BitVec w) {b : Nat}
    (h : b ∉ accessAddrs a n) : (s.storeCells (cellsOf a n v)).mem.read b = s.mem.read b := by
  apply State.storeCells_read_outside
  intro c hc e
  apply h
  rw [← cellsOf_addrs a n v, List.mem_map]
  exact ⟨c, hc, e⟩

/-- Storing a value puts its byte `i` at its address `i`, where no device is (20_memory.md R61). -/
theorem State.storeCells_cellsOf_inside {w : Nat} (a : Word) {n : Nat} (hn : n ≤ 4294967296) (v : BitVec w) {i : Nat}
    (hi : i < n) (hd : s.isDevice (byteAddr a i) = false) :
    (s.storeCells (cellsOf a n v)).mem.read (byteAddr a i) = v.extractLsb' (8 * i) 8 :=
  State.storeCells_read_inside s (cellsOf a n v) (by rw [cellsOf_addrs]; exact accessAddrs_nodup a hn)
    (c := (byteAddr a i, v.extractLsb' (8 * i) 8)) (List.mem_map.2 ⟨i, List.mem_range.2 hi, rfl⟩) hd

/-- A store that touches no device shows the environment nothing. -/
theorem State.storeCells_devLog (cs : List Host.Cell) (h : ∀ c ∈ cs, s.isDevice c.1 = false) :
    (s.storeCells cs).devLog = s.devLog := by
  unfold State.storeCells
  rw [if_neg]
  · obtain ⟨m, st, e⟩ := s.foldStore_shape cs; simp only [e]
  · simp only [List.any_eq_true, not_exists, not_and, Bool.not_eq_true]
    exact h

theorem State.storeCells_cellsOf_devLog {w : Nat} (a : Word) (n : Nat) (v : BitVec w)
    (h : ∀ b ∈ accessAddrs a n, s.isDevice b = false) : (s.storeCells (cellsOf a n v)).devLog = s.devLog := by
  apply State.storeCells_devLog
  intro c hc
  apply h
  rw [← cellsOf_addrs a n v, List.mem_map]
  exact ⟨c, hc, rfl⟩

/-! ### The invariant under a store -/

/-- A store keeps memory and the stored addresses canonical, and puts no byte at a device's address. -/
theorem State.storeCells_keeps (cs : List Host.Cell) (hc : ∀ c ∈ cs, c.1 < 4294967296)
    (hm : s.mem.wf = true) (hs : addrsWf s.stored = true) (hd : ∀ a ∈ s.stored, s.isDevice a = false)
    (hv : ∀ c ∈ s.mem.cells, s.isDevice c.1 = false) :
    (s.storeCells cs).mem.wf = true ∧ addrsWf (s.storeCells cs).stored = true ∧
      (∀ a ∈ (s.storeCells cs).stored, s.isDevice a = false) ∧
      (∀ c ∈ (s.storeCells cs).mem.cells, s.isDevice c.1 = false) := by
  have st : (s.storeCells cs).stored = (cs.foldl State.storeCell s).stored := by
    unfold State.storeCells; split <;> rfl
  rw [State.storeCells_mem, st]
  clear st
  induction cs generalizing s with
  | nil => exact ⟨hm, hs, hd, hv⟩
  | cons c cs ih =>
    rw [List.foldl_cons]
    have := ih (s.storeCell c) (fun d hd => hc d (List.mem_cons_of_mem _ hd))
    simp only [State.storeCell_isDevice] at this
    apply this
    · unfold State.storeCell; split
      · exact hm
      · exact Memory.wf_write _ hm (hc c List.mem_cons_self)
    · unfold State.storeCell; split
      · exact hs
      · exact addrsWf_insertAddr hs (hc c List.mem_cons_self)
    · intro a ha
      unfold State.storeCell at ha; split at ha
      · exact hd a ha
      · rcases (mem_insertAddr _ _ _).1 ha with rfl | ha
        · exact Bool.eq_false_iff.2 ‹¬ s.isDevice c.1 = true›
        · exact hd a ha
    · intro d hd'
      unfold State.storeCell at hd'; split at hd'
      · exact hv d hd'
      · rcases Memory.mem_write_cells hd' with rfl | hd'
        · exact Bool.eq_false_iff.2 ‹¬ s.isDevice c.1 = true›
        · exact hv d hd'

/-! ### Exceptions -/

/-- A general fault enters its handler, or stops because one is in progress (60_exceptions.md R410, R423). -/
theorem State.raise_cases (code : Half) :
    (s.sr.bl = true ∧ s.raise code = .fault (.exceptionWhileBlocked code s.pc)) ∨
    (s.sr.bl = false ∧ s.raise code = .next (s.faultDrawn.trapEntry code 0x08#32 s.faultRet)) := by
  unfold State.raise
  cases s.sr.bl
  · exact .inr ⟨rfl, rfl⟩
  · exact .inl ⟨rfl, rfl⟩

/-- A general fault that answers a next state. -/
theorem State.raise_next {code : Half} {t : State} (h : s.raise code = .next t) :
    s.sr.bl = false ∧ t = s.faultDrawn.trapEntry code 0x08#32 s.faultRet := by
  rcases s.raise_cases code with ⟨-, e⟩ | ⟨hb, e⟩ <;> rw [e] at h
  · cases h
  · cases h; exact ⟨hb, rfl⟩

/-- A software interrupt that answers a next state. -/
theorem State.softInterrupt_next {code : Half} {t : State} (h : s.softInterrupt code = .next t) :
    s.sr.bl = false ∧ t = s.trapEntry code 0x10#32 s.pcNext := by
  unfold State.softInterrupt at h
  split at h
  · cases h
  · rename_i e; cases h; exact ⟨by simpa using e, rfl⟩

/-- The saved PC of a general fault is that of the faulting instruction or of the following one (60_exceptions.md R412,
parameter `FAULT_SPC`). -/
theorem State.faultRet_cases : s.faultRet = s.pc ∨ s.faultRet = s.pc + 2#32 := by
  unfold State.faultRet State.pcNext
  split
  · exact .inl rfl
  · exact .inr rfl
  · split
    · exact .inl rfl
    · exact .inr rfl

/-! ### Control registers -/

/-- A write of a control register writes the one it names, and there is no write of C0 and the unnamed ones
(45_system.md R324). -/
theorem State.setCreg_cases (n : CReg) (v : Word) :
    (n = 1#4 ∧ s.setCreg n v = some (s.setLr v)) ∨ (n = 2#4 ∧ s.setCreg n v = some (s.setSr (StatusReg.ofWord v))) ∨
    (n = 3#4 ∧ s.setCreg n v = some { s with vbr := v }) ∨ (n = 4#4 ∧ s.setCreg n v = some { s with spc := v }) ∨
    (n = 5#4 ∧ s.setCreg n v = some { s with ssp := v }) ∨ (n = 6#4 ∧ s.setCreg n v = some { s with gbr := v }) ∨
    (n = 7#4 ∧ s.setCreg n v = some { s with tbr := v }) ∨ (n = 11#4 ∧ s.setCreg n v = some { s with exsr := v }) ∨
    (n = 12#4 ∧ s.setCreg n v = some { s with ssr := v }) ∨
    (n ∈ [0#4, 8#4, 9#4, 10#4, 13#4, 14#4, 15#4] ∧ s.setCreg n v = none) := by
  unfold State.setCreg
  split <;> try simp
  rename_i h1 h2 h3 h4 h5 h6 h7 h8 h9
  revert h1 h2 h3 h4 h5 h6 h7 h8 h9
  revert n; decide

/-! ### The step -/

/-- An accepted source is a candidate, and taking it changes at most the draw counter (60_exceptions.md R421). -/
theorem State.acceptIrq_state {src : IrqSource} {t : State} (h : s.acceptIrq = some (src, t)) :
    t = s ∨ t = { s with draws := s.draws + 1 } := by
  unfold State.acceptIrq at h
  split at h
  · cases h
  · cases h; exact .inl rfl
  · cases h; exact .inr rfl

/-- A fetch that answers gives the two bytes at the pc, the low one first (20_memory.md R62, R65). -/
theorem State.fetch_ok {w : Half} {t : State} (h : s.fetch = .ok (w, t)) :
    s.pc.getLsbD 0 = false ∧ s.checkAccess s.pc 2 Region.exec 0x800B#16 0x8003#16 = none ∧
      w = leWord 16 (s.loadBytes s.pc 2) ∧ t = s.noteLoad s.pc 2 := by
  unfold State.fetch at h
  split at h
  · cases h
  · rename_i e
    split at h
    · cases h
    · rename_i e'; cases h; exact ⟨by simpa using e, e', rfl, rfl⟩

/-- What one step does: an interrupt is taken, or the core sleeps on, or the fetch faults, or an instruction runs. -/
theorem stepWith_next {run : Instr → State → Outcome} {t : State} (h : stepWith run s = .next t) :
    (∃ src u, s.present.acceptIrq = some (src, u) ∧ t = u.trapEntry (irqCode src) 0x10#32 s.present.pc) ∨
    (s.present.acceptIrq = none ∧ s.present.sleeping = true ∧ t = s.present) ∨
    (s.present.acceptIrq = none ∧ s.present.sleeping = false ∧ ∃ code, s.present.fetch = .error code ∧
      s.present.raise code = .next t) ∨
    (s.present.acceptIrq = none ∧ s.present.sleeping = false ∧ ∃ w u i, s.present.fetch = .ok (w, u) ∧
      decodeWord w = .ok i ∧ run i u = .next t) := by
  unfold stepWith at h
  simp only at h
  split at h
  · next src u e => cases h; exact .inl ⟨src, u, e, rfl⟩
  · next e =>
    split at h
    · next es => cases h; exact .inr (.inl ⟨e, es, rfl⟩)
    · next es =>
      have es' : s.present.sleeping = false := by simpa using es
      unfold runInstruction at h
      split at h
      · next code ef => exact .inr (.inr (.inl ⟨e, es', code, ef, h⟩))
      · next w u ef =>
        split at h
        · cases h
        · split at h
          · cases h
          · next i ei => exact .inr (.inr (.inr ⟨e, es', w, u, i, ef, ei, h⟩))

end Sys2Proof.Machine
end

