-- ==== Sys2Proof/Laws/Values.lean ====
section
/-! SUPPORT. The values loads assemble, in the terms of the claims. -/

namespace Sys2Proof.Machine

variable (s : State)

/-- Shifting a value up by a byte and putting a byte below it appends the byte. -/
theorem shl8_or {k w : Nat} (x : BitVec k) (b : Byte) :
    ((x.setWidth w) <<< 8) ||| b.setWidth w = (x ++ b).setWidth w := by
  apply BitVec.eq_of_getLsbD_eq
  intro i hi
  simp only [BitVec.getLsbD_or, BitVec.getLsbD_shiftLeft, BitVec.getLsbD_setWidth, BitVec.getLsbD_append, hi,
    decide_true, Bool.true_and]
  by_cases h8 : i < 8
  · simp [h8]
  · have : i - 8 < w := by omega
    simp [h8, this, BitVec.getLsbD_of_ge b i (by omega)]

theorem leWord_one (b : Byte) : leWord 8 [b] = b := by simp [leWord]

theorem leWord_two (b c : Byte) : leWord 16 [b, c] = c ++ b := by
  have h : leWord 16 [b, c] = (c.setWidth 16) <<< 8 ||| b.setWidth 16 := by simp [leWord]
  rw [h, shl8_or c b]; exact BitVec.setWidth_eq _

theorem leWord_four (b c d e : Byte) : leWord 32 [b, c, d, e] = e ++ d ++ c ++ b := by
  have h : leWord 32 [b, c, d, e] =
      (((e.setWidth 32) <<< 8 ||| d.setWidth 32) <<< 8 ||| c.setWidth 32) <<< 8 ||| b.setWidth 32 := by simp [leWord]
  rw [h, shl8_or e d, shl8_or (e ++ d) c, shl8_or (e ++ d ++ c) b]
  exact BitVec.setWidth_eq _

theorem leWord_eight (b0 b1 b2 b3 b4 b5 b6 b7 : Byte) :
    leWord 64 [b0, b1, b2, b3, b4, b5, b6, b7] = b7 ++ b6 ++ b5 ++ b4 ++ b3 ++ b2 ++ b1 ++ b0 := by
  have h : leWord 64 [b0, b1, b2, b3, b4, b5, b6, b7] =
      (((((((b7.setWidth 64) <<< 8 ||| b6.setWidth 64) <<< 8 ||| b5.setWidth 64) <<< 8 ||| b4.setWidth 64) <<< 8 |||
        b3.setWidth 64) <<< 8 ||| b2.setWidth 64) <<< 8 ||| b1.setWidth 64) <<< 8 ||| b0.setWidth 64 := by
    simp [leWord]
  rw [h, shl8_or b7 b6, shl8_or (b7 ++ b6) b5, shl8_or (b7 ++ b6 ++ b5) b4,
    shl8_or (b7 ++ b6 ++ b5 ++ b4) b3, shl8_or (b7 ++ b6 ++ b5 ++ b4 ++ b3) b2,
    shl8_or (b7 ++ b6 ++ b5 ++ b4 ++ b3 ++ b2) b1,
    shl8_or (b7 ++ b6 ++ b5 ++ b4 ++ b3 ++ b2 ++ b1) b0]
  exact BitVec.setWidth_eq _

/-- The bytes of a load are the bytes read at its addresses. -/
theorem State.loadBytes_eq (a : Word) (k : Nat) : s.loadBytes a k = (List.range k).map (s.readByte a) := rfl

@[simp] theorem State.leWord_load1 (a : Word) : leWord 8 (s.loadBytes a 1) = s.le8 a := leWord_one _
@[simp] theorem State.leWord_load2 (a : Word) : leWord 16 (s.loadBytes a 2) = s.le16 a := leWord_two _ _
@[simp] theorem State.leWord_load4 (a : Word) : leWord 32 (s.loadBytes a 4) = s.le32 a := leWord_four _ _ _ _
@[simp] theorem State.leWord_load8 (a : Word) : leWord 64 (s.loadBytes a 8) = s.le64 a :=
  leWord_eight _ _ _ _ _ _ _ _

@[simp] theorem State.loadedS_load1 (a : Word) : loadedS 1 (s.loadBytes a 1) = (s.le8 a).signExtend 32 :=
  congrArg _ (s.leWord_load1 a)
@[simp] theorem State.loadedS_load2 (a : Word) : loadedS 2 (s.loadBytes a 2) = (s.le16 a).signExtend 32 :=
  congrArg _ (s.leWord_load2 a)
@[simp] theorem State.loadedU_load1 (a : Word) : loadedU 1 (s.loadBytes a 1) = (s.le8 a).setWidth 32 :=
  congrArg _ (s.leWord_load1 a)
@[simp] theorem State.loadedU_load2 (a : Word) : loadedU 2 (s.loadBytes a 2) = (s.le16 a).setWidth 32 :=
  congrArg _ (s.leWord_load2 a)

/-- A data read passes its checks exactly when it is readable. -/
theorem State.readable_iff {a : Word} {k : Nat} :
    Readable s a k ↔ s.checkAccess a k Region.read 0x8009#16 0x8001#16 = none :=
  s.checkAccess_eq_none.symm

/-- A data write passes its checks exactly when it is writable. -/
theorem State.writable_iff {a : Word} {k : Nat} :
    Writable s a k ↔ s.checkAccess a k Region.write 0x800A#16 0x8002#16 = none :=
  s.checkAccess_eq_none.symm

end Sys2Proof.Machine
end

