-- ==== Sys2Proof/Laws/Frames.lean ====
section
/-! SUPPORT. What each shared operation an instruction ends in leaves unchanged, in the terms of the claims. -/

namespace Sys2Proof.Machine

variable (s : State)

/-! ### Control registers under the updates -/

@[simp] theorem State.creg_setReg (n : Reg) (v : Word) (c : CReg) : (s.setReg n v).creg c = s.creg c := rfl
@[simp] theorem State.creg_setFreg (n : FReg) (v : DWord) (c : CReg) : (s.setFreg n v).creg c = s.creg c := rfl

/-- Control registers but PC and SR read only their own fields. -/
theorem State.creg_congr {s t : State} {c : CReg} (h0 : c ≠ 0#4) (h2 : c ≠ 2#4) (hl : t.lr = s.lr) (hv : t.vbr = s.vbr)
    (hp : t.spc = s.spc) (hs : t.ssp = s.ssp) (hg : t.gbr = s.gbr) (ht : t.tbr = s.tbr) (he : t.exsr = s.exsr)
    (hr : t.ssr = s.ssr) : t.creg c = s.creg c := by
  unfold State.creg
  split <;> first | contradiction | (simp only [hl, hv, hp, hs, hg, ht, he, hr])

/-- Reading the control register just written gives the value written (10_state.md R39 for SR is `toWord_ofWord`). -/
theorem State.setCreg_creg_same {s t : State} {n : CReg} {v : Word} (hn : n ≠ 2#4) (h : s.setCreg n v = some t) :
    t.creg n = some v := by
  rcases s.setCreg_cases n v with ⟨rfl, e⟩ | ⟨rfl, e⟩ | ⟨rfl, e⟩ | ⟨rfl, e⟩ | ⟨rfl, e⟩ | ⟨rfl, e⟩ | ⟨rfl, e⟩ | ⟨rfl, e⟩ |
    ⟨rfl, e⟩ | ⟨-, e⟩ <;> rw [e] at h <;>
    first | exact absurd rfl hn | cases h <;> rfl

/-- Writing a control register leaves the others (PC and SR apart). -/
theorem State.setCreg_creg_ne {s t : State} {n c : CReg} {v : Word} (h0 : c ≠ 0#4) (h2 : c ≠ 2#4) (hc : c ≠ n)
    (h : s.setCreg n v = some t) : t.creg c = s.creg c := by
  rcases s.setCreg_cases n v with ⟨rfl, e⟩ | ⟨rfl, e⟩ | ⟨rfl, e⟩ | ⟨rfl, e⟩ | ⟨rfl, e⟩ | ⟨rfl, e⟩ | ⟨rfl, e⟩ | ⟨rfl, e⟩ |
    ⟨rfl, e⟩ | ⟨-, e⟩ <;> rw [e] at h <;>
    cases h <;> (unfold State.creg; split <;> first | contradiction | rfl)

/-- Writing a control register changes nothing else. -/
theorem State.setCreg_rest {s t : State} {n : CReg} {v : Word} (h : s.setCreg n v = some t) :
    t.cfg = s.cfg ∧ t.regs = s.regs ∧ t.fregs = s.fregs ∧ t.pc = s.pc ∧ t.mem = s.mem ∧ t.pending = s.pending ∧
      t.sleeping = s.sleeping ∧ t.inputs = s.inputs ∧ t.devLog = s.devLog ∧ t.draws = s.draws ∧ t.stored = s.stored ∧
      (n ≠ 2#4 → t.sr = s.sr) ∧ (n = 2#4 → t.sr = StatusReg.ofWord v) := by
  rcases s.setCreg_cases n v with ⟨rfl, e⟩ | ⟨rfl, e⟩ | ⟨rfl, e⟩ | ⟨rfl, e⟩ | ⟨rfl, e⟩ | ⟨rfl, e⟩ | ⟨rfl, e⟩ | ⟨rfl, e⟩ |
    ⟨rfl, e⟩ | ⟨-, e⟩ <;> rw [e] at h <;> cases h <;>
    exact ⟨rfl, rfl, rfl, rfl, rfl, rfl, rfl, rfl, rfl, rfl, rfl, by simp, by simp⟩

/-! ### Frames -/

/-- Two changes one after the other. -/
theorem Frame.trans {s t u : State} {rs rs' : List Reg} {fs fs' : List FReg} {cs cs' : List CReg}
    {ms ms' ts ts' : List Nat} (h : Frame s t rs fs cs ms ts) (h' : Frame t u rs' fs' cs' ms' ts') :
    Frame s u (rs ++ rs') (fs ++ fs') (cs ++ cs') (ms ++ ms') (ts ++ ts') where
  regs r hr := by
    rw [List.mem_append, not_or] at hr
    rw [h'.regs r hr.2, h.regs r hr.1]
  fregs r hr := by
    rw [List.mem_append, not_or] at hr
    rw [h'.fregs r hr.2, h.fregs r hr.1]
  ctl c h0 h2 hc := by
    rw [List.mem_append, not_or] at hc
    rw [h'.ctl c h0 h2 hc.2, h.ctl c h0 h2 hc.1]
  mem a ha := by
    rw [List.mem_append, not_or] at ha
    rw [h'.mem a ha.2, h.mem a ha.1]
  sleeping := by rw [h'.sleeping, h.sleeping]
  outside := ⟨by rw [h'.outside.1, h.outside.1], by rw [h'.outside.2.1, h.outside.2.1],
    by rw [h'.outside.2.2, h.outside.2.2]⟩
  devices hd := by
    have e : ∀ a, t.isDevice a = s.isDevice a := fun a => by simp only [State.isDevice, h.outside.1]
    rw [h'.devices fun a ha => by rw [e]; exact hd a (List.mem_append_right _ ha),
      h.devices fun a ha => hd a (List.mem_append_left _ ha)]

/-- A frame that lets more change. -/
theorem Frame.mono {s t : State} {rs rs' : List Reg} {fs fs' : List FReg} {cs cs' : List CReg} {ms ms' ts ts' : List Nat}
    (h : Frame s t rs fs cs ms ts) (hr : rs ⊆ rs') (hf : fs ⊆ fs') (hc : cs ⊆ cs') (hm : ms ⊆ ms') (ht : ts ⊆ ts') :
    Frame s t rs' fs' cs' ms' ts' where
  regs r h' := h.regs r (fun e => h' (hr e))
  fregs r h' := h.fregs r (fun e => h' (hf e))
  ctl c h0 h2 h' := h.ctl c h0 h2 (fun e => h' (hc e))
  mem a h' := h.mem a (fun e => h' (hm e))
  sleeping := h.sleeping
  outside := h.outside
  devices h' := h.devices (fun a ha => h' a (ht ha))

/-- Nothing changes. -/
theorem Frame.refl : Frame s s [] [] [] [] [] :=
  ⟨fun _ _ => rfl, fun _ _ => rfl, fun _ _ _ _ => rfl, fun _ _ => rfl, rfl, ⟨rfl, rfl, rfl⟩, fun _ => rfl⟩

theorem Frame.setReg (n : Reg) (v : Word) : Frame s (s.setReg n v) [n] [] [] [] [] :=
  ⟨fun _ h => s.setReg_reg_ne (by simpa using h) v, fun _ _ => rfl, fun _ _ _ _ => rfl, fun _ _ => rfl, rfl,
    ⟨rfl, rfl, rfl⟩, fun _ => rfl⟩

theorem Frame.setFreg (n : FReg) (v : DWord) : Frame s (s.setFreg n v) [] [n] [] [] [] :=
  ⟨fun _ _ => rfl, fun _ h => by rw [State.setFreg_freg, if_neg (by simpa using h)], fun _ _ _ _ => rfl,
    fun _ _ => rfl, rfl, ⟨rfl, rfl, rfl⟩, fun _ => rfl⟩

theorem Frame.setPc (v : Word) : Frame s (s.setPc v) [] [] [] [] [] :=
  ⟨fun _ _ => rfl, fun _ _ => rfl, fun _ h0 h2 _ => State.creg_congr h0 h2 rfl rfl rfl rfl rfl rfl rfl rfl,
    fun _ _ => rfl, rfl, ⟨rfl, rfl, rfl⟩, fun _ => rfl⟩

theorem Frame.advance : Frame s s.advance [] [] [] [] [] := Frame.setPc s s.pcNext

theorem Frame.setSr (r : StatusReg) : Frame s (s.setSr r) [] [] [] [] [] :=
  ⟨fun _ _ => rfl, fun _ _ => rfl, fun _ h0 h2 _ => State.creg_congr h0 h2 rfl rfl rfl rfl rfl rfl rfl rfl,
    fun _ _ => rfl, rfl, ⟨rfl, rfl, rfl⟩, fun _ => rfl⟩

theorem Frame.setLr (v : Word) : Frame s (s.setLr v) [] [] [1#4] [] [] :=
  ⟨fun _ _ => rfl, fun _ _ => rfl, fun c h0 h2 h => by
      unfold State.creg; split <;> first | contradiction | rfl,
    fun _ _ => rfl, rfl, ⟨rfl, rfl, rfl⟩, fun _ => rfl⟩

theorem Frame.setCreg {s t : State} {n : CReg} {v : Word} (h : s.setCreg n v = some t) : Frame s t [] [] [n] [] [] := by
  obtain ⟨h1, h2, h3, -, h5, h6, h7, h8, h9, -⟩ := State.setCreg_rest h
  exact ⟨fun _ _ => by simp only [State.reg, h2], fun _ _ => by simp only [State.freg, h3],
    fun c c0 c2 hc => State.setCreg_creg_ne c0 c2 (by simpa using hc) h, fun _ _ => by rw [h5], h7, ⟨h1, h6, h8⟩,
    fun _ => h9⟩

theorem Frame.drawReg (n : Reg) : Frame s (s.drawReg n) [n] [] [] [] [] :=
  ⟨fun _ h => by rw [State.drawReg_reg, if_neg (by simpa using h)], fun _ _ => rfl,
    fun _ h0 h2 _ => State.creg_congr h0 h2 rfl rfl rfl rfl rfl rfl rfl rfl, fun _ _ => rfl, rfl, ⟨rfl, rfl, rfl⟩,
    fun _ => rfl⟩

theorem Frame.drawT : Frame s s.drawT [] [] [] [] [] :=
  ⟨fun _ _ => rfl, fun _ _ => rfl, fun _ h0 h2 _ => State.creg_congr h0 h2 rfl rfl rfl rfl rfl rfl rfl rfl,
    fun _ _ => rfl, rfl, ⟨rfl, rfl, rfl⟩, fun _ => rfl⟩

theorem Frame.clobber (n : Reg) (d : Option Reg) : Frame s (s.clobber n d) [n] [] [] [] [] := by
  unfold State.clobber
  split
  · exact (Frame.refl s).mono (by simp) (by simp) (by simp) (by simp) (by simp)
  · exact Frame.drawReg s n

theorem Frame.dlrClobber (d : Option Reg) : Frame s (s.dlrClobber d) [dlr] [] [] [] [] := Frame.clobber s dlr d

theorem Frame.movClobber (d : Option Reg) : Frame s (s.movClobber d) [dlr, dhr] [] [] [] [] :=
  (Frame.clobber s dlr d).trans (Frame.clobber _ dhr d)

theorem Frame.branchClobber : Frame s s.branchClobber [dlr, dhr] [] [] [] [] :=
  ((Frame.drawReg s dlr).trans (Frame.drawReg _ dhr)).trans (Frame.drawT _)

theorem Frame.noteLoad (a : Word) (k : Nat) : Frame s (s.noteLoad a k) [] [] [] [] (accessAddrs a k) :=
  ⟨fun _ _ => by simp, fun _ _ => by simp, fun _ h0 h2 _ => State.creg_congr h0 h2 (by simp) (by simp) (by simp)
      (by simp) (by simp) (by simp) (by simp) (by simp), fun _ _ => by simp, by simp, by simp,
    fun h => s.noteLoad_devLog h⟩

theorem Frame.storeCells {w : Nat} (a : Word) (k : Nat) (v : BitVec w) :
    Frame s (s.storeCells (cellsOf a k v)) [] [] [] (accessAddrs a k) (accessAddrs a k) :=
  ⟨fun _ _ => by simp, fun _ _ => by simp, fun _ h0 h2 _ => State.creg_congr h0 h2 (by simp) (by simp) (by simp)
      (by simp) (by simp) (by simp) (by simp) (by simp), fun _ h => s.storeCells_cellsOf_outside a k v h, by simp,
    by simp, fun h => s.storeCells_cellsOf_devLog a k v h⟩

/-! ### Clobbers -/

/-- The clobber of a use of DLR draws a free word. -/
theorem dlrClobbered (d : Option Reg) : DlrClobbered s (s.dlrClobber d) d := fun h =>
  ⟨s.draws, Nat.le_refl _, by rw [State.dlrClobber, State.clobber_draws, if_neg h]; exact Nat.lt_succ_self _,
    s.clobber_reg_same h⟩

/-- The clobber of a MOV.x draws two free words. -/
theorem movClobbered (d : Option Reg) : MovClobbered s (s.movClobber d) d := by
  by_cases h : d = some dlr
  · have e : s.clobber dlr d = s := by simp [State.clobber, h]
    have h' : d ≠ some dhr := by rw [h]; decide
    refine ⟨s.draws + 1, s.draws, Nat.succ_ne_self _, fun g => absurd h g, fun _ => ⟨Nat.le_refl _, ?_, ?_⟩⟩ <;>
      rw [State.movClobber, e]
    · rw [State.clobber_draws, if_neg h']; exact Nat.lt_succ_self _
    · exact s.clobber_reg_same h'
  · have e : (s.clobber dlr d).draws = s.draws + 1 := by rw [State.clobber_draws, if_neg h]
    refine ⟨s.draws, s.draws + 1, (Nat.succ_ne_self _).symm, fun _ => ⟨Nat.le_refl _, ?_, ?_⟩,
      fun g => ⟨Nat.le_succ _, ?_, ?_⟩⟩ <;> rw [State.movClobber]
    · rw [State.clobber_draws, e]; split <;> omega
    · rw [State.clobber_reg_ne _ (by decide), State.clobber_reg_same _ h]
    · rw [State.clobber_draws, if_neg g, e]; exact Nat.lt_succ_self _
    · rw [State.clobber_reg_same _ g, e]

/-- The clobber of a branch draws two free words and a free bit. -/
theorem branchClobbered : BranchClobbered s s.branchClobber := by
  refine ⟨s.draws, s.draws + 1, s.draws + 2, by omega, by omega, by omega, ⟨Nat.le_refl _, ?_, ?_⟩,
    ⟨Nat.le_succ _, ?_, ?_⟩, by omega, ?_, rfl⟩
  · show s.draws < s.draws + 3; omega
  · rw [State.branchClobber, State.drawT_reg, State.drawReg_reg, if_neg (by decide), State.drawReg_reg, if_pos rfl]
  · show s.draws + 1 < s.draws + 3; omega
  · rw [State.branchClobber, State.drawT_reg, State.drawReg_reg, if_pos rfl, State.drawReg_draws]
  · show s.draws + 2 < s.draws + 3; omega

/-- A clobber seen from an earlier state. -/
theorem DlrClobbered.from {s t u : State} {d : Option Reg} (h : DlrClobbered t u d) (hd : s.draws ≤ t.draws) :
    DlrClobbered s u d := fun g => by
  obtain ⟨k, h1, h2⟩ := h g
  exact ⟨k, Nat.le_trans hd h1, h2⟩

/-- A clobber seen from an earlier state. -/
theorem MovClobbered.from {s t u : State} {d : Option Reg} (h : MovClobbered t u d) (hd : s.draws ≤ t.draws) :
    MovClobbered s u d := by
  obtain ⟨j, k, hjk, h1, h2⟩ := h
  exact ⟨j, k, hjk, fun g => ⟨Nat.le_trans hd (h1 g).1, (h1 g).2⟩, fun g => ⟨Nat.le_trans hd (h2 g).1, (h2 g).2⟩⟩

/-- A store has put the bytes of the value where the claims look for them. -/
theorem stored_storeCells {w : Nat} (a : Word) {k : Nat} (hk : k ≤ 4294967296) (v : BitVec w) :
    Stored s (s.storeCells (cellsOf a k v)) a k v := fun _ hi hd => s.storeCells_cellsOf_inside a hk v hi hd

end Sys2Proof.Machine
end

