-- ==== Sys2Proof/Laws/PerInstr.lean ====
section
/-! SUPPORT. For every instruction: its word is the row of spec/opcode_table.json it stands for, that is, under the row's
mask the encoder's word is the row's match. -/

namespace Sys2Proof.Laws

/-- The mask and the match of an instruction's row of spec/opcode_table.json. -/
def TableWord.row : Instr → Half × Half
  | .movbStore _ _ => (0xFF00#16, 0x0000#16)
  | .movwStore _ _ => (0xFF00#16, 0x0100#16)
  | .movlStore _ _ => (0xFF00#16, 0x0200#16)
  | .movubLoad _ _ => (0xFF00#16, 0x0300#16)
  | .movbStoreDlr _ _ => (0xFF00#16, 0x0400#16)
  | .movwStoreDlr _ _ => (0xFF00#16, 0x0500#16)
  | .movlStoreDlr _ _ => (0xFF00#16, 0x0600#16)
  | .movubLoadDlr _ _ => (0xFF00#16, 0x0700#16)
  | .movbLoad _ _ => (0xFF00#16, 0x0800#16)
  | .movwLoad _ _ => (0xFF00#16, 0x0900#16)
  | .movlLoad _ _ => (0xFF00#16, 0x0A00#16)
  | .movuwLoad _ _ => (0xFF00#16, 0x0B00#16)
  | .movbLoadDlr _ _ => (0xFF00#16, 0x0C00#16)
  | .movwLoadDlr _ _ => (0xFF00#16, 0x0D00#16)
  | .movlLoadDlr _ _ => (0xFF00#16, 0x0E00#16)
  | .movuwLoadDlr _ _ => (0xFF00#16, 0x0F00#16)
  | .addReg _ _ => (0xFF00#16, 0x1000#16)
  | .subReg _ _ => (0xFF00#16, 0x1100#16)
  | .adcReg _ _ => (0xFF00#16, 0x1200#16)
  | .sbbReg _ _ => (0xFF00#16, 0x1300#16)
  | .tstReg _ _ => (0xFF00#16, 0x1400#16)
  | .andReg _ _ => (0xFF00#16, 0x1500#16)
  | .orReg _ _ => (0xFF00#16, 0x1600#16)
  | .xorReg _ _ => (0xFF00#16, 0x1700#16)
  | .movReg _ _ => (0xFF00#16, 0x1800#16)
  | .cmpeqReg _ _ => (0xFF00#16, 0x1C00#16)
  | .cmphiReg _ _ => (0xFF00#16, 0x1D00#16)
  | .cmpgtReg _ _ => (0xFF00#16, 0x1E00#16)
  | .braDisp _ => (0xFF00#16, 0x2000#16)
  | .bsrDisp _ => (0xFF00#16, 0x2100#16)
  | .btDisp _ => (0xFF00#16, 0x2200#16)
  | .bfDisp _ => (0xFF00#16, 0x2300#16)
  | .ldiz8 _ => (0xFF00#16, 0x2400#16)
  | .ldin8 _ => (0xFF00#16, 0x2500#16)
  | .ldish _ => (0xFF00#16, 0x2600#16)
  | .movuwLoadSp _ _ => (0xFF00#16, 0x2700#16)
  | .movlStoreSp _ _ => (0xFF00#16, 0x2800#16)
  | .movwStoreSp _ _ => (0xFF00#16, 0x2900#16)
  | .movlLoadSp _ _ => (0xFF00#16, 0x2A00#16)
  | .movwLoadSp _ _ => (0xFF00#16, 0x2B00#16)
  | .cmpeqImmU _ _ => (0xFF00#16, 0x2C00#16)
  | .cmpeqImmN _ _ => (0xFF00#16, 0x2D00#16)
  | .cmpgtImm _ _ => (0xFF00#16, 0x2E00#16)
  | .cmpgeImm _ _ => (0xFF00#16, 0x2F00#16)
  | .nop => (0xFFFF#16, 0x3000#16)
  | .rts => (0xFFFF#16, 0x3010#16)
  | .sleep => (0xFFFF#16, 0x3020#16)
  | .breakpoint => (0xFFFF#16, 0x3030#16)
  | .clrt => (0xFFFF#16, 0x3040#16)
  | .sett => (0xFFFF#16, 0x3050#16)
  | .clrs => (0xFFFF#16, 0x3060#16)
  | .sets => (0xFFFF#16, 0x3070#16)
  | .nott => (0xFFFF#16, 0x3080#16)
  | .nots => (0xFFFF#16, 0x3090#16)
  | .ldish16Zero => (0xFFFF#16, 0x30A0#16)
  | .ldish16Ones => (0xFFFF#16, 0x30B0#16)
  | .rte => (0xFFFF#16, 0x30C0#16)
  | .pushReg _ => (0xFF0F#16, 0x3108#16)
  | .pushCtl _ => (0xFF0F#16, 0x3109#16)
  | .popReg _ => (0xFF0F#16, 0x310A#16)
  | .popCtl _ => (0xFF0F#16, 0x310B#16)
  | .cmppl _ => (0xFF0F#16, 0x310C#16)
  | .cmppz _ => (0xFF0F#16, 0x310D#16)
  | .braReg _ => (0xFF0F#16, 0x3200#16)
  | .bsrReg _ => (0xFF0F#16, 0x3201#16)
  | .btReg _ => (0xFF0F#16, 0x3202#16)
  | .bfReg _ => (0xFF0F#16, 0x3203#16)
  | .extuB _ => (0xFF0F#16, 0x3204#16)
  | .extuW _ => (0xFF0F#16, 0x3205#16)
  | .extsB _ => (0xFF0F#16, 0x3206#16)
  | .extsW _ => (0xFF0F#16, 0x3207#16)
  | .notReg _ => (0xFF0F#16, 0x3300#16)
  | .negReg _ => (0xFF0F#16, 0x3301#16)
  | .negcReg _ => (0xFF0F#16, 0x3302#16)
  | .movnt _ => (0xFF0F#16, 0x3303#16)
  | .rotl _ => (0xFF0F#16, 0x3304#16)
  | .rotr _ => (0xFF0F#16, 0x3305#16)
  | .rotcl _ => (0xFF0F#16, 0x3306#16)
  | .rotcr _ => (0xFF0F#16, 0x3307#16)
  | .shll _ => (0xFF0F#16, 0x3308#16)
  | .shlr _ => (0xFF0F#16, 0x3309#16)
  | .shar _ => (0xFF0F#16, 0x330A#16)
  | .shll1 _ => (0xFF0F#16, 0x3400#16)
  | .shll2 _ => (0xFF0F#16, 0x3401#16)
  | .shll4 _ => (0xFF0F#16, 0x3402#16)
  | .shll8 _ => (0xFF0F#16, 0x3403#16)
  | .shlr1 _ => (0xFF0F#16, 0x3404#16)
  | .shlr2 _ => (0xFF0F#16, 0x3405#16)
  | .shlr4 _ => (0xFF0F#16, 0x3406#16)
  | .shlr8 _ => (0xFF0F#16, 0x3407#16)
  | .shar1 _ => (0xFF0F#16, 0x3408#16)
  | .shar2 _ => (0xFF0F#16, 0x3409#16)
  | .shar4 _ => (0xFF0F#16, 0x340A#16)
  | .shar8 _ => (0xFF0F#16, 0x340B#16)
  | .shll16 _ => (0xFF0F#16, 0x340C#16)
  | .shlr16 _ => (0xFF0F#16, 0x340D#16)
  | .shar16 _ => (0xFF0F#16, 0x340E#16)
  | .sharsx _ => (0xFF0F#16, 0x340F#16)
  | .trap _ => (0xFF0F#16, 0x3603#16)
  | .shld _ => (0xFF0F#16, 0x3606#16)
  | .shad _ => (0xFF0F#16, 0x3607#16)
  | .cmphsDlr _ => (0xFF0F#16, 0x360D#16)
  | .cmpgeDlr _ => (0xFF0F#16, 0x360E#16)
  | .movt _ => (0xFF0F#16, 0x360F#16)
  | .swapB _ => (0xFF0F#16, 0x3700#16)
  | .swapW _ => (0xFF0F#16, 0x3701#16)
  | .swapLb _ => (0xFF0F#16, 0x3704#16)
  | .pushFpu _ => (0xFF0F#16, 0x3802#16)
  | .popFpu _ => (0xFF0F#16, 0x3803#16)
  | .movToCtl _ _ => (0xFF00#16, 0x4800#16)
  | .movFromCtl _ _ => (0xFF00#16, 0x4900#16)
  | .movToShadow _ _ => (0xFF00#16, 0x4A00#16)
  | .movFromShadow _ _ => (0xFF00#16, 0x4B00#16)
  | .leaB _ _ => (0xFF00#16, 0x4C00#16)
  | .leaW _ _ => (0xFF00#16, 0x4D00#16)
  | .leaL _ _ => (0xFF00#16, 0x4E00#16)
  | .leaQ _ _ => (0xFF00#16, 0x4F00#16)
  | .muls _ _ => (0xFF00#16, 0x5600#16)
  | .mulu _ _ => (0xFF00#16, 0x5700#16)
  | .addDlr _ _ => (0xFF00#16, 0x5800#16)
  | .subDlr _ _ => (0xFF00#16, 0x5900#16)
  | .andDlr _ _ => (0xFF00#16, 0x5D00#16)
  | .orDlr _ _ => (0xFF00#16, 0x5E00#16)
  | .xorDlr _ _ => (0xFF00#16, 0x5F00#16)
  | .movlStoreDisp4 _ _ => (0xFF00#16, 0x8100#16)
  | .movlStoreDisp8 _ _ => (0xFF00#16, 0x8200#16)
  | .movlStoreDisp12 _ _ => (0xFF00#16, 0x8300#16)
  | .movlStoreDisp16 _ _ => (0xFF00#16, 0x8400#16)
  | .movlStoreDisp20 _ _ => (0xFF00#16, 0x8500#16)
  | .movlStoreDisp24 _ _ => (0xFF00#16, 0x8600#16)
  | .movlStoreDisp28 _ _ => (0xFF00#16, 0x8700#16)
  | .movlLoadDisp4 _ _ => (0xFF00#16, 0x8900#16)
  | .movlLoadDisp8 _ _ => (0xFF00#16, 0x8A00#16)
  | .movlLoadDisp12 _ _ => (0xFF00#16, 0x8B00#16)
  | .movlLoadDisp16 _ _ => (0xFF00#16, 0x8C00#16)
  | .movlLoadDisp20 _ _ => (0xFF00#16, 0x8D00#16)
  | .movlLoadDisp24 _ _ => (0xFF00#16, 0x8E00#16)
  | .movlLoadDisp28 _ _ => (0xFF00#16, 0x8F00#16)
  | .fmovsStore _ _ => (0xFF00#16, 0x9000#16)
  | .fmovdStore _ _ => (0xFF00#16, 0x9100#16)
  | .fmovsStoreDlr _ _ => (0xFF00#16, 0x9200#16)
  | .fmovdStoreDlr _ _ => (0xFF00#16, 0x9300#16)
  | .fmovsLoad _ _ => (0xFF00#16, 0x9400#16)
  | .fmovdLoad _ _ => (0xFF00#16, 0x9500#16)
  | .fmovsLoadDlr _ _ => (0xFF00#16, 0x9600#16)
  | .fmovdLoadDlr _ _ => (0xFF00#16, 0x9700#16)
  | .fadd _ _ => (0xFF00#16, 0x9800#16)
  | .fsub _ _ => (0xFF00#16, 0x9900#16)
  | .fmul _ _ => (0xFF00#16, 0x9A00#16)
  | .fcmpeq _ _ => (0xFF00#16, 0x9C00#16)
  | .fcmpgt _ _ => (0xFF00#16, 0x9D00#16)
  | .fmovReg _ _ => (0xFF00#16, 0x9E00#16)
  | .fldcf _ => (0xFF0F#16, 0x9F00#16)
  | .fldcd _ => (0xFF0F#16, 0x9F01#16)
  | .fldci _ => (0xFF0F#16, 0x9F02#16)
  | .fldch _ => (0xFF0F#16, 0x9F03#16)
  | .fstcf _ => (0xFF0F#16, 0x9F04#16)
  | .fstcd _ => (0xFF0F#16, 0x9F05#16)
  | .fstci _ => (0xFF0F#16, 0x9F06#16)
  | .fstch _ => (0xFF0F#16, 0x9F07#16)
  | .fneg _ => (0xFF0F#16, 0x9F08#16)
  | .fabs _ => (0xFF0F#16, 0x9F09#16)
  | .ldiz12 _ => (0xF000#16, 0xA000#16)
  | .ldin12 _ => (0xF000#16, 0xB000#16)
  | .addImm _ _ => (0xF000#16, 0xC000#16)
  | .movImm _ _ => (0xF000#16, 0xD000#16)

/-- The word of the instruction is of its row of spec/opcode_table.json. -/
def TableWord.Statement (i : Instr) : Prop := encode i &&& (TableWord.row i).1 = (TableWord.row i).2

theorem nibbles_and (a b n m a' b' n' m' : BitVec 4) :
    nibbles a b n m &&& nibbles a' b' n' m' = nibbles (a &&& a') (b &&& b') (n &&& n') (m &&& m') := by
  apply BitVec.eq_of_getLsbD_eq
  intro i hi
  simp only [nibbles, BitVec.getLsbD_and, BitVec.getLsbD_append]
  split
  · rfl
  · split
    · rfl
    · split <;> rfl

theorem nibble_and_all (a : BitVec 4) : a &&& 0xF#4 = a := by revert a; decide

theorem nibble_and_none (a : BitVec 4) : a &&& 0x0#4 = 0#4 := by revert a; decide

theorem mask_FF00 (a b n m : BitVec 4) : nibbles a b n m &&& 0xFF00#16 = nibbles a b 0#4 0#4 := by
  have h : 0xFF00#16 = nibbles 0xF#4 0xF#4 0x0#4 0x0#4 := by decide
  rw [h, nibbles_and]; simp [nibble_and_all]

theorem mask_F000 (a b n m : BitVec 4) : nibbles a b n m &&& 0xF000#16 = nibbles a 0#4 0#4 0#4 := by
  have h : 0xF000#16 = nibbles 0xF#4 0x0#4 0x0#4 0x0#4 := by decide
  rw [h, nibbles_and]; simp [nibble_and_all]

theorem mask_FF0F (a b n m : BitVec 4) : nibbles a b n m &&& 0xFF0F#16 = nibbles a b 0#4 m := by
  have h : 0xFF0F#16 = nibbles 0xF#4 0xF#4 0x0#4 0xF#4 := by decide
  rw [h, nibbles_and]; simp [nibble_and_all]

theorem mask_FFFF (a b n m : BitVec 4) : nibbles a b n m &&& 0xFFFF#16 = nibbles a b n m := by
  have h : 0xFFFF#16 = nibbles 0xF#4 0xF#4 0xF#4 0xF#4 := by decide
  rw [h, nibbles_and]; simp [nibble_and_all]

theorem TableWord.movbStore (n : BitVec 4) (m : BitVec 4) : TableWord.Statement (.movbStore n m) := mask_FF00 _ _ _ _
theorem TableWord.movwStore (n : BitVec 4) (m : BitVec 4) : TableWord.Statement (.movwStore n m) := mask_FF00 _ _ _ _
theorem TableWord.movlStore (n : BitVec 4) (m : BitVec 4) : TableWord.Statement (.movlStore n m) := mask_FF00 _ _ _ _
theorem TableWord.movubLoad (n : BitVec 4) (m : BitVec 4) : TableWord.Statement (.movubLoad n m) := mask_FF00 _ _ _ _
theorem TableWord.movbStoreDlr (n : BitVec 4) (m : BitVec 4) : TableWord.Statement (.movbStoreDlr n m) := mask_FF00 _ _ _ _
theorem TableWord.movwStoreDlr (n : BitVec 4) (m : BitVec 4) : TableWord.Statement (.movwStoreDlr n m) := mask_FF00 _ _ _ _
theorem TableWord.movlStoreDlr (n : BitVec 4) (m : BitVec 4) : TableWord.Statement (.movlStoreDlr n m) := mask_FF00 _ _ _ _
theorem TableWord.movubLoadDlr (n : BitVec 4) (m : BitVec 4) : TableWord.Statement (.movubLoadDlr n m) := mask_FF00 _ _ _ _
theorem TableWord.movbLoad (n : BitVec 4) (m : BitVec 4) : TableWord.Statement (.movbLoad n m) := mask_FF00 _ _ _ _
theorem TableWord.movwLoad (n : BitVec 4) (m : BitVec 4) : TableWord.Statement (.movwLoad n m) := mask_FF00 _ _ _ _
theorem TableWord.movlLoad (n : BitVec 4) (m : BitVec 4) : TableWord.Statement (.movlLoad n m) := mask_FF00 _ _ _ _
theorem TableWord.movuwLoad (n : BitVec 4) (m : BitVec 4) : TableWord.Statement (.movuwLoad n m) := mask_FF00 _ _ _ _
theorem TableWord.movbLoadDlr (n : BitVec 4) (m : BitVec 4) : TableWord.Statement (.movbLoadDlr n m) := mask_FF00 _ _ _ _
theorem TableWord.movwLoadDlr (n : BitVec 4) (m : BitVec 4) : TableWord.Statement (.movwLoadDlr n m) := mask_FF00 _ _ _ _
theorem TableWord.movlLoadDlr (n : BitVec 4) (m : BitVec 4) : TableWord.Statement (.movlLoadDlr n m) := mask_FF00 _ _ _ _
theorem TableWord.movuwLoadDlr (n : BitVec 4) (m : BitVec 4) : TableWord.Statement (.movuwLoadDlr n m) := mask_FF00 _ _ _ _
theorem TableWord.addReg (n : BitVec 4) (m : BitVec 4) : TableWord.Statement (.addReg n m) := mask_FF00 _ _ _ _
theorem TableWord.subReg (n : BitVec 4) (m : BitVec 4) : TableWord.Statement (.subReg n m) := mask_FF00 _ _ _ _
theorem TableWord.adcReg (n : BitVec 4) (m : BitVec 4) : TableWord.Statement (.adcReg n m) := mask_FF00 _ _ _ _
theorem TableWord.sbbReg (n : BitVec 4) (m : BitVec 4) : TableWord.Statement (.sbbReg n m) := mask_FF00 _ _ _ _
theorem TableWord.tstReg (n : BitVec 4) (m : BitVec 4) : TableWord.Statement (.tstReg n m) := mask_FF00 _ _ _ _
theorem TableWord.andReg (n : BitVec 4) (m : BitVec 4) : TableWord.Statement (.andReg n m) := mask_FF00 _ _ _ _
theorem TableWord.orReg (n : BitVec 4) (m : BitVec 4) : TableWord.Statement (.orReg n m) := mask_FF00 _ _ _ _
theorem TableWord.xorReg (n : BitVec 4) (m : BitVec 4) : TableWord.Statement (.xorReg n m) := mask_FF00 _ _ _ _
theorem TableWord.movReg (n : BitVec 4) (m : BitVec 4) : TableWord.Statement (.movReg n m) := mask_FF00 _ _ _ _
theorem TableWord.cmpeqReg (n : BitVec 4) (m : BitVec 4) : TableWord.Statement (.cmpeqReg n m) := mask_FF00 _ _ _ _
theorem TableWord.cmphiReg (n : BitVec 4) (m : BitVec 4) : TableWord.Statement (.cmphiReg n m) := mask_FF00 _ _ _ _
theorem TableWord.cmpgtReg (n : BitVec 4) (m : BitVec 4) : TableWord.Statement (.cmpgtReg n m) := mask_FF00 _ _ _ _
theorem TableWord.braDisp (d : BitVec 8) : TableWord.Statement (.braDisp d) := mask_FF00 _ _ _ _
theorem TableWord.bsrDisp (d : BitVec 8) : TableWord.Statement (.bsrDisp d) := mask_FF00 _ _ _ _
theorem TableWord.btDisp (d : BitVec 8) : TableWord.Statement (.btDisp d) := mask_FF00 _ _ _ _
theorem TableWord.bfDisp (d : BitVec 8) : TableWord.Statement (.bfDisp d) := mask_FF00 _ _ _ _
theorem TableWord.ldiz8 (j : BitVec 8) : TableWord.Statement (.ldiz8 j) := mask_FF00 _ _ _ _
theorem TableWord.ldin8 (j : BitVec 8) : TableWord.Statement (.ldin8 j) := mask_FF00 _ _ _ _
theorem TableWord.ldish (j : BitVec 8) : TableWord.Statement (.ldish j) := mask_FF00 _ _ _ _
theorem TableWord.movuwLoadSp (n : BitVec 4) (d : BitVec 4) : TableWord.Statement (.movuwLoadSp n d) := mask_FF00 _ _ _ _
theorem TableWord.movlStoreSp (n : BitVec 4) (d : BitVec 4) : TableWord.Statement (.movlStoreSp n d) := mask_FF00 _ _ _ _
theorem TableWord.movwStoreSp (n : BitVec 4) (d : BitVec 4) : TableWord.Statement (.movwStoreSp n d) := mask_FF00 _ _ _ _
theorem TableWord.movlLoadSp (n : BitVec 4) (d : BitVec 4) : TableWord.Statement (.movlLoadSp n d) := mask_FF00 _ _ _ _
theorem TableWord.movwLoadSp (n : BitVec 4) (d : BitVec 4) : TableWord.Statement (.movwLoadSp n d) := mask_FF00 _ _ _ _
theorem TableWord.cmpeqImmU (n : BitVec 4) (j : BitVec 4) : TableWord.Statement (.cmpeqImmU n j) := mask_FF00 _ _ _ _
theorem TableWord.cmpeqImmN (n : BitVec 4) (j : BitVec 4) : TableWord.Statement (.cmpeqImmN n j) := mask_FF00 _ _ _ _
theorem TableWord.cmpgtImm (n : BitVec 4) (j : BitVec 4) : TableWord.Statement (.cmpgtImm n j) := mask_FF00 _ _ _ _
theorem TableWord.cmpgeImm (n : BitVec 4) (j : BitVec 4) : TableWord.Statement (.cmpgeImm n j) := mask_FF00 _ _ _ _
theorem TableWord.nop : TableWord.Statement .nop := mask_FFFF _ _ _ _
theorem TableWord.rts : TableWord.Statement .rts := mask_FFFF _ _ _ _
theorem TableWord.sleep : TableWord.Statement .sleep := mask_FFFF _ _ _ _
theorem TableWord.breakpoint : TableWord.Statement .breakpoint := mask_FFFF _ _ _ _
theorem TableWord.clrt : TableWord.Statement .clrt := mask_FFFF _ _ _ _
theorem TableWord.sett : TableWord.Statement .sett := mask_FFFF _ _ _ _
theorem TableWord.clrs : TableWord.Statement .clrs := mask_FFFF _ _ _ _
theorem TableWord.sets : TableWord.Statement .sets := mask_FFFF _ _ _ _
theorem TableWord.nott : TableWord.Statement .nott := mask_FFFF _ _ _ _
theorem TableWord.nots : TableWord.Statement .nots := mask_FFFF _ _ _ _
theorem TableWord.ldish16Zero : TableWord.Statement .ldish16Zero := mask_FFFF _ _ _ _
theorem TableWord.ldish16Ones : TableWord.Statement .ldish16Ones := mask_FFFF _ _ _ _
theorem TableWord.rte : TableWord.Statement .rte := mask_FFFF _ _ _ _
theorem TableWord.pushReg (n : BitVec 4) : TableWord.Statement (.pushReg n) := mask_FF0F _ _ _ _
theorem TableWord.pushCtl (n : BitVec 4) : TableWord.Statement (.pushCtl n) := mask_FF0F _ _ _ _
theorem TableWord.popReg (n : BitVec 4) : TableWord.Statement (.popReg n) := mask_FF0F _ _ _ _
theorem TableWord.popCtl (n : BitVec 4) : TableWord.Statement (.popCtl n) := mask_FF0F _ _ _ _
theorem TableWord.cmppl (n : BitVec 4) : TableWord.Statement (.cmppl n) := mask_FF0F _ _ _ _
theorem TableWord.cmppz (n : BitVec 4) : TableWord.Statement (.cmppz n) := mask_FF0F _ _ _ _
theorem TableWord.braReg (n : BitVec 4) : TableWord.Statement (.braReg n) := mask_FF0F _ _ _ _
theorem TableWord.bsrReg (n : BitVec 4) : TableWord.Statement (.bsrReg n) := mask_FF0F _ _ _ _
theorem TableWord.btReg (n : BitVec 4) : TableWord.Statement (.btReg n) := mask_FF0F _ _ _ _
theorem TableWord.bfReg (n : BitVec 4) : TableWord.Statement (.bfReg n) := mask_FF0F _ _ _ _
theorem TableWord.extuB (n : BitVec 4) : TableWord.Statement (.extuB n) := mask_FF0F _ _ _ _
theorem TableWord.extuW (n : BitVec 4) : TableWord.Statement (.extuW n) := mask_FF0F _ _ _ _
theorem TableWord.extsB (n : BitVec 4) : TableWord.Statement (.extsB n) := mask_FF0F _ _ _ _
theorem TableWord.extsW (n : BitVec 4) : TableWord.Statement (.extsW n) := mask_FF0F _ _ _ _
theorem TableWord.notReg (n : BitVec 4) : TableWord.Statement (.notReg n) := mask_FF0F _ _ _ _
theorem TableWord.negReg (n : BitVec 4) : TableWord.Statement (.negReg n) := mask_FF0F _ _ _ _
theorem TableWord.negcReg (n : BitVec 4) : TableWord.Statement (.negcReg n) := mask_FF0F _ _ _ _
theorem TableWord.movnt (n : BitVec 4) : TableWord.Statement (.movnt n) := mask_FF0F _ _ _ _
theorem TableWord.rotl (n : BitVec 4) : TableWord.Statement (.rotl n) := mask_FF0F _ _ _ _
theorem TableWord.rotr (n : BitVec 4) : TableWord.Statement (.rotr n) := mask_FF0F _ _ _ _
theorem TableWord.rotcl (n : BitVec 4) : TableWord.Statement (.rotcl n) := mask_FF0F _ _ _ _
theorem TableWord.rotcr (n : BitVec 4) : TableWord.Statement (.rotcr n) := mask_FF0F _ _ _ _
theorem TableWord.shll (n : BitVec 4) : TableWord.Statement (.shll n) := mask_FF0F _ _ _ _
theorem TableWord.shlr (n : BitVec 4) : TableWord.Statement (.shlr n) := mask_FF0F _ _ _ _
theorem TableWord.shar (n : BitVec 4) : TableWord.Statement (.shar n) := mask_FF0F _ _ _ _
theorem TableWord.shll1 (n : BitVec 4) : TableWord.Statement (.shll1 n) := mask_FF0F _ _ _ _
theorem TableWord.shll2 (n : BitVec 4) : TableWord.Statement (.shll2 n) := mask_FF0F _ _ _ _
theorem TableWord.shll4 (n : BitVec 4) : TableWord.Statement (.shll4 n) := mask_FF0F _ _ _ _
theorem TableWord.shll8 (n : BitVec 4) : TableWord.Statement (.shll8 n) := mask_FF0F _ _ _ _
theorem TableWord.shlr1 (n : BitVec 4) : TableWord.Statement (.shlr1 n) := mask_FF0F _ _ _ _
theorem TableWord.shlr2 (n : BitVec 4) : TableWord.Statement (.shlr2 n) := mask_FF0F _ _ _ _
theorem TableWord.shlr4 (n : BitVec 4) : TableWord.Statement (.shlr4 n) := mask_FF0F _ _ _ _
theorem TableWord.shlr8 (n : BitVec 4) : TableWord.Statement (.shlr8 n) := mask_FF0F _ _ _ _
theorem TableWord.shar1 (n : BitVec 4) : TableWord.Statement (.shar1 n) := mask_FF0F _ _ _ _
theorem TableWord.shar2 (n : BitVec 4) : TableWord.Statement (.shar2 n) := mask_FF0F _ _ _ _
theorem TableWord.shar4 (n : BitVec 4) : TableWord.Statement (.shar4 n) := mask_FF0F _ _ _ _
theorem TableWord.shar8 (n : BitVec 4) : TableWord.Statement (.shar8 n) := mask_FF0F _ _ _ _
theorem TableWord.shll16 (n : BitVec 4) : TableWord.Statement (.shll16 n) := mask_FF0F _ _ _ _
theorem TableWord.shlr16 (n : BitVec 4) : TableWord.Statement (.shlr16 n) := mask_FF0F _ _ _ _
theorem TableWord.shar16 (n : BitVec 4) : TableWord.Statement (.shar16 n) := mask_FF0F _ _ _ _
theorem TableWord.sharsx (n : BitVec 4) : TableWord.Statement (.sharsx n) := mask_FF0F _ _ _ _
theorem TableWord.trap (j : BitVec 4) : TableWord.Statement (.trap j) := mask_FF0F _ _ _ _
theorem TableWord.shld (n : BitVec 4) : TableWord.Statement (.shld n) := mask_FF0F _ _ _ _
theorem TableWord.shad (n : BitVec 4) : TableWord.Statement (.shad n) := mask_FF0F _ _ _ _
theorem TableWord.cmphsDlr (n : BitVec 4) : TableWord.Statement (.cmphsDlr n) := mask_FF0F _ _ _ _
theorem TableWord.cmpgeDlr (n : BitVec 4) : TableWord.Statement (.cmpgeDlr n) := mask_FF0F _ _ _ _
theorem TableWord.movt (n : BitVec 4) : TableWord.Statement (.movt n) := mask_FF0F _ _ _ _
theorem TableWord.swapB (n : BitVec 4) : TableWord.Statement (.swapB n) := mask_FF0F _ _ _ _
theorem TableWord.swapW (n : BitVec 4) : TableWord.Statement (.swapW n) := mask_FF0F _ _ _ _
theorem TableWord.swapLb (n : BitVec 4) : TableWord.Statement (.swapLb n) := mask_FF0F _ _ _ _
theorem TableWord.pushFpu (n : BitVec 4) : TableWord.Statement (.pushFpu n) := mask_FF0F _ _ _ _
theorem TableWord.popFpu (n : BitVec 4) : TableWord.Statement (.popFpu n) := mask_FF0F _ _ _ _
theorem TableWord.movToCtl (n : BitVec 4) (m : BitVec 4) : TableWord.Statement (.movToCtl n m) := mask_FF00 _ _ _ _
theorem TableWord.movFromCtl (n : BitVec 4) (m : BitVec 4) : TableWord.Statement (.movFromCtl n m) := mask_FF00 _ _ _ _
theorem TableWord.movToShadow (n : BitVec 4) (m : BitVec 4) : TableWord.Statement (.movToShadow n m) := mask_FF00 _ _ _ _
theorem TableWord.movFromShadow (n : BitVec 4) (m : BitVec 4) : TableWord.Statement (.movFromShadow n m) := mask_FF00 _ _ _ _
theorem TableWord.leaB (n : BitVec 4) (m : BitVec 4) : TableWord.Statement (.leaB n m) := mask_FF00 _ _ _ _
theorem TableWord.leaW (n : BitVec 4) (m : BitVec 4) : TableWord.Statement (.leaW n m) := mask_FF00 _ _ _ _
theorem TableWord.leaL (n : BitVec 4) (m : BitVec 4) : TableWord.Statement (.leaL n m) := mask_FF00 _ _ _ _
theorem TableWord.leaQ (n : BitVec 4) (m : BitVec 4) : TableWord.Statement (.leaQ n m) := mask_FF00 _ _ _ _
theorem TableWord.muls (n : BitVec 4) (m : BitVec 4) : TableWord.Statement (.muls n m) := mask_FF00 _ _ _ _
theorem TableWord.mulu (n : BitVec 4) (m : BitVec 4) : TableWord.Statement (.mulu n m) := mask_FF00 _ _ _ _
theorem TableWord.addDlr (n : BitVec 4) (m : BitVec 4) : TableWord.Statement (.addDlr n m) := mask_FF00 _ _ _ _
theorem TableWord.subDlr (n : BitVec 4) (m : BitVec 4) : TableWord.Statement (.subDlr n m) := mask_FF00 _ _ _ _
theorem TableWord.andDlr (n : BitVec 4) (m : BitVec 4) : TableWord.Statement (.andDlr n m) := mask_FF00 _ _ _ _
theorem TableWord.orDlr (n : BitVec 4) (m : BitVec 4) : TableWord.Statement (.orDlr n m) := mask_FF00 _ _ _ _
theorem TableWord.xorDlr (n : BitVec 4) (m : BitVec 4) : TableWord.Statement (.xorDlr n m) := mask_FF00 _ _ _ _
theorem TableWord.movlStoreDisp4 (n : BitVec 4) (m : BitVec 4) : TableWord.Statement (.movlStoreDisp4 n m) := mask_FF00 _ _ _ _
theorem TableWord.movlStoreDisp8 (n : BitVec 4) (m : BitVec 4) : TableWord.Statement (.movlStoreDisp8 n m) := mask_FF00 _ _ _ _
theorem TableWord.movlStoreDisp12 (n : BitVec 4) (m : BitVec 4) : TableWord.Statement (.movlStoreDisp12 n m) := mask_FF00 _ _ _ _
theorem TableWord.movlStoreDisp16 (n : BitVec 4) (m : BitVec 4) : TableWord.Statement (.movlStoreDisp16 n m) := mask_FF00 _ _ _ _
theorem TableWord.movlStoreDisp20 (n : BitVec 4) (m : BitVec 4) : TableWord.Statement (.movlStoreDisp20 n m) := mask_FF00 _ _ _ _
theorem TableWord.movlStoreDisp24 (n : BitVec 4) (m : BitVec 4) : TableWord.Statement (.movlStoreDisp24 n m) := mask_FF00 _ _ _ _
theorem TableWord.movlStoreDisp28 (n : BitVec 4) (m : BitVec 4) : TableWord.Statement (.movlStoreDisp28 n m) := mask_FF00 _ _ _ _
theorem TableWord.movlLoadDisp4 (n : BitVec 4) (m : BitVec 4) : TableWord.Statement (.movlLoadDisp4 n m) := mask_FF00 _ _ _ _
theorem TableWord.movlLoadDisp8 (n : BitVec 4) (m : BitVec 4) : TableWord.Statement (.movlLoadDisp8 n m) := mask_FF00 _ _ _ _
theorem TableWord.movlLoadDisp12 (n : BitVec 4) (m : BitVec 4) : TableWord.Statement (.movlLoadDisp12 n m) := mask_FF00 _ _ _ _
theorem TableWord.movlLoadDisp16 (n : BitVec 4) (m : BitVec 4) : TableWord.Statement (.movlLoadDisp16 n m) := mask_FF00 _ _ _ _
theorem TableWord.movlLoadDisp20 (n : BitVec 4) (m : BitVec 4) : TableWord.Statement (.movlLoadDisp20 n m) := mask_FF00 _ _ _ _
theorem TableWord.movlLoadDisp24 (n : BitVec 4) (m : BitVec 4) : TableWord.Statement (.movlLoadDisp24 n m) := mask_FF00 _ _ _ _
theorem TableWord.movlLoadDisp28 (n : BitVec 4) (m : BitVec 4) : TableWord.Statement (.movlLoadDisp28 n m) := mask_FF00 _ _ _ _
theorem TableWord.fmovsStore (n : BitVec 4) (m : BitVec 4) : TableWord.Statement (.fmovsStore n m) := mask_FF00 _ _ _ _
theorem TableWord.fmovdStore (n : BitVec 4) (m : BitVec 4) : TableWord.Statement (.fmovdStore n m) := mask_FF00 _ _ _ _
theorem TableWord.fmovsStoreDlr (n : BitVec 4) (m : BitVec 4) : TableWord.Statement (.fmovsStoreDlr n m) := mask_FF00 _ _ _ _
theorem TableWord.fmovdStoreDlr (n : BitVec 4) (m : BitVec 4) : TableWord.Statement (.fmovdStoreDlr n m) := mask_FF00 _ _ _ _
theorem TableWord.fmovsLoad (n : BitVec 4) (m : BitVec 4) : TableWord.Statement (.fmovsLoad n m) := mask_FF00 _ _ _ _
theorem TableWord.fmovdLoad (n : BitVec 4) (m : BitVec 4) : TableWord.Statement (.fmovdLoad n m) := mask_FF00 _ _ _ _
theorem TableWord.fmovsLoadDlr (n : BitVec 4) (m : BitVec 4) : TableWord.Statement (.fmovsLoadDlr n m) := mask_FF00 _ _ _ _
theorem TableWord.fmovdLoadDlr (n : BitVec 4) (m : BitVec 4) : TableWord.Statement (.fmovdLoadDlr n m) := mask_FF00 _ _ _ _
theorem TableWord.fadd (n : BitVec 4) (m : BitVec 4) : TableWord.Statement (.fadd n m) := mask_FF00 _ _ _ _
theorem TableWord.fsub (n : BitVec 4) (m : BitVec 4) : TableWord.Statement (.fsub n m) := mask_FF00 _ _ _ _
theorem TableWord.fmul (n : BitVec 4) (m : BitVec 4) : TableWord.Statement (.fmul n m) := mask_FF00 _ _ _ _
theorem TableWord.fcmpeq (n : BitVec 4) (m : BitVec 4) : TableWord.Statement (.fcmpeq n m) := mask_FF00 _ _ _ _
theorem TableWord.fcmpgt (n : BitVec 4) (m : BitVec 4) : TableWord.Statement (.fcmpgt n m) := mask_FF00 _ _ _ _
theorem TableWord.fmovReg (n : BitVec 4) (m : BitVec 4) : TableWord.Statement (.fmovReg n m) := mask_FF00 _ _ _ _
theorem TableWord.fldcf (n : BitVec 4) : TableWord.Statement (.fldcf n) := mask_FF0F _ _ _ _
theorem TableWord.fldcd (n : BitVec 4) : TableWord.Statement (.fldcd n) := mask_FF0F _ _ _ _
theorem TableWord.fldci (n : BitVec 4) : TableWord.Statement (.fldci n) := mask_FF0F _ _ _ _
theorem TableWord.fldch (n : BitVec 4) : TableWord.Statement (.fldch n) := mask_FF0F _ _ _ _
theorem TableWord.fstcf (n : BitVec 4) : TableWord.Statement (.fstcf n) := mask_FF0F _ _ _ _
theorem TableWord.fstcd (n : BitVec 4) : TableWord.Statement (.fstcd n) := mask_FF0F _ _ _ _
theorem TableWord.fstci (n : BitVec 4) : TableWord.Statement (.fstci n) := mask_FF0F _ _ _ _
theorem TableWord.fstch (n : BitVec 4) : TableWord.Statement (.fstch n) := mask_FF0F _ _ _ _
theorem TableWord.fneg (n : BitVec 4) : TableWord.Statement (.fneg n) := mask_FF0F _ _ _ _
theorem TableWord.fabs (n : BitVec 4) : TableWord.Statement (.fabs n) := mask_FF0F _ _ _ _
theorem TableWord.ldiz12 (j : BitVec 12) : TableWord.Statement (.ldiz12 j) := mask_F000 _ _ _ _
theorem TableWord.ldin12 (j : BitVec 12) : TableWord.Statement (.ldin12 j) := mask_F000 _ _ _ _
theorem TableWord.addImm (n : BitVec 4) (i : BitVec 8) : TableWord.Statement (.addImm n i) := mask_F000 _ _ _ _
theorem TableWord.movImm (n : BitVec 4) (i : BitVec 8) : TableWord.Statement (.movImm n i) := mask_F000 _ _ _ _

end Sys2Proof.Laws
end

