-- ==== Sys2Proof/Laws/Supplied.lean ====
section
/-! SUPPORT. What the parameters that are functions of the state see (10_state.md R36, R39; 60_exceptions.md R440), and what taking over the state
of a supplied FSTCD leaves: each field, each byte of memory, and the invariant (46_fpu.md R374; log entry 18). -/

namespace Sys2Proof.Machine

variable (s u : State)

/-- The masks do not depend on any other bit of SR. -/
theorem StatusReg.masks_eq {p q : StatusReg} : p.masks = q.masks ↔ p.ipl = q.ipl ∧ p.bl = q.bl := by
  simp [StatusReg.masks]

/-- The functions of FLDCD and FSTCD see of SR its BL alone. -/
theorem State.fpuView_setSr (r : StatusReg) (h : r.bl = s.sr.bl) : (s.setSr r).fpuView = s.fpuView := by
  simp [State.fpuView, State.setSr, StatusReg.masks, h]

/-- An unstated `sleep_invalid` sees of SR its masks alone, and no FPU register or memory byte. -/
theorem State.sleepView_eq (r : StatusReg) (f : Vector DWord 16) (m : Memory) (h : r.masks = s.sr.masks) :
    State.sleepView { s with sr := r, fregs := f, mem := m } = s.sleepView := by
  simp [State.sleepView, State.setSr, h]

/-- States that differ in the idle bits of SR alone look the same to FLDCD and FSTCD, if their SSR is the same. -/
theorem State.fpuView_of_forgetIdle {s t : State} (h : s.forgetIdle = t.forgetIdle) (hs : s.ssr = t.ssr) :
    s.fpuView = t.fpuView := by
  cases s; cases t
  simp_all [State.forgetIdle, State.fpuView, State.setSr, StatusReg.masks]

/-- States that differ in the idle bits of SR alone look the same to SLEEP, if their SSR is the same. -/
theorem State.sleepView_of_forgetIdle {s t : State} (h : s.forgetIdle = t.forgetIdle) (hs : s.ssr = t.ssr) :
    s.sleepView = t.sleepView := by
  cases s; cases t
  simp_all [State.forgetIdle, State.sleepView, State.setSr, StatusReg.masks]

@[simp] theorem State.takeFstcd_cfg : (s.takeFstcd u).cfg = s.cfg := by simp [State.takeFstcd]
@[simp] theorem State.takeFstcd_regs : (s.takeFstcd u).regs = u.regs := rfl
@[simp] theorem State.takeFstcd_pc : (s.takeFstcd u).pc = u.pc := rfl
@[simp] theorem State.takeFstcd_lr : (s.takeFstcd u).lr = u.lr := rfl
@[simp] theorem State.takeFstcd_sr : (s.takeFstcd u).sr = s.sr := by simp [State.takeFstcd]
@[simp] theorem State.takeFstcd_vbr : (s.takeFstcd u).vbr = u.vbr := rfl
@[simp] theorem State.takeFstcd_spc : (s.takeFstcd u).spc = u.spc := rfl
@[simp] theorem State.takeFstcd_ssp : (s.takeFstcd u).ssp = u.ssp := rfl
@[simp] theorem State.takeFstcd_gbr : (s.takeFstcd u).gbr = s.gbr := by simp [State.takeFstcd]
@[simp] theorem State.takeFstcd_tbr : (s.takeFstcd u).tbr = u.tbr := rfl
@[simp] theorem State.takeFstcd_exsr : (s.takeFstcd u).exsr = u.exsr := rfl
@[simp] theorem State.takeFstcd_ssr : (s.takeFstcd u).ssr = u.ssr := rfl
@[simp] theorem State.takeFstcd_fregs : (s.takeFstcd u).fregs = u.fregs := rfl
@[simp] theorem State.takeFstcd_pending : (s.takeFstcd u).pending = s.pending := by simp [State.takeFstcd]
@[simp] theorem State.takeFstcd_sleeping : (s.takeFstcd u).sleeping = u.sleeping := rfl
@[simp] theorem State.takeFstcd_draws : (s.takeFstcd u).draws = max s.draws u.draws := rfl
@[simp] theorem State.takeFstcd_inputs : (s.takeFstcd u).inputs = s.inputs := by simp [State.takeFstcd]
@[simp] theorem State.takeFstcd_devLog : (s.takeFstcd u).devLog = u.devLog := rfl
@[simp] theorem State.takeFstcd_reg (n : Reg) : (s.takeFstcd u).reg n = u.reg n := rfl
@[simp] theorem State.takeFstcd_freg (n : FReg) : (s.takeFstcd u).freg n = u.freg n := rfl
@[simp] theorem State.takeFstcd_isDevice (a : Nat) : (s.takeFstcd u).isDevice a = s.isDevice a := by
  simp [State.isDevice]

theorem State.takeFstcd_mem : (s.takeFstcd u).mem = (s.storeCells (s.fstcdCells u)).mem := rfl
theorem State.takeFstcd_stored : (s.takeFstcd u).stored = (s.storeCells (s.fstcdCells u)).stored := rfl

/-- An address that is not listed reads as the fill. -/
theorem lookupCell_none {a : Nat} {cs : List Host.Cell} (h : a ∉ cs.map (·.1)) : lookupCell a cs = none := by
  induction cs with
  | nil => rfl
  | cons c cs ih =>
    rw [List.map_cons, List.mem_cons, not_or] at h
    obtain ⟨b, v⟩ := c
    rw [lookupCell, if_neg h.1, ih h.2]

@[simp] theorem State.storeCell_fill (c : Host.Cell) : (s.storeCell c).mem.fill = s.mem.fill := by
  unfold State.storeCell; split <;> rfl

@[simp] theorem State.storeCells_fill (cs : List Host.Cell) : (s.storeCells cs).mem.fill = s.mem.fill := by
  rw [State.storeCells_mem]
  induction cs generalizing s with
  | nil => rfl
  | cons c cs ih => rw [List.foldl_cons, ih, State.storeCell_fill]

/-- Storing at each address of a list the byte a function gives it, repeats allowed. -/
theorem State.storeCells_read_map (f : Nat → Byte) (as : List Nat) {a : Nat} (h : a ∈ as)
    (hd : s.isDevice a = false) : (s.storeCells (as.map fun b => (b, f b))).mem.read a = f a := by
  rw [State.storeCells_mem]
  induction as generalizing s with
  | nil => cases h
  | cons b bs ih =>
    rw [List.map_cons, List.foldl_cons]
    by_cases hb : a ∈ bs
    · exact ih _ hb (by rw [State.storeCell_isDevice]; exact hd)
    · obtain rfl : a = b := (List.mem_cons.1 h).resolve_right hb
      rw [← State.storeCells_mem, State.storeCells_read_outside]
      · simp [State.storeCell, hd]
      · rintro c hc rfl
        obtain ⟨b, hb', rfl⟩ := List.mem_map.1 hc
        exact hb hb'

/-- Every cell taken over is in memory, at an address of the address space. -/
theorem State.fstcdCells_mem {c : Host.Cell} (h : c ∈ s.fstcdCells u) :
    c.1 < 4294967296 ∧ s.isDevice c.1 = false := by
  obtain ⟨a, ha, rfl⟩ := List.mem_map.1 h
  have := (List.mem_filter.1 ha).2
  simp only [Bool.and_eq_true, decide_eq_true_eq, Bool.not_eq_true'] at this
  exact this.1

@[simp] theorem State.takeFstcd_fill : (s.takeFstcd u).mem.fill = s.mem.fill := s.storeCells_fill _

/-- Every byte of memory is the byte the function's state has. -/
theorem State.takeFstcd_read {a : Nat} (h : a < 4294967296) (hd : s.isDevice a = false) :
    (s.takeFstcd u).mem.read a = (s.fstcdMem u).read a := by
  rw [State.takeFstcd_mem, State.fstcdCells]
  generalize e : List.filter _ _ = as
  by_cases ha : a ∈ as
  · exact s.storeCells_read_map _ as ha hd
  · rw [State.storeCells_read_outside]
    · rw [← e, List.mem_filter] at ha
      by_cases hl : a ∈ s.mem.cells.map (·.1) ++ u.mem.cells.map (·.1) ++ u.stored
      · have := fun h' => ha ⟨hl, h'⟩
        simp only [h, hd, decide_true, Bool.not_false, Bool.true_and, Bool.or_eq_true, bne_iff_ne] at this
        exact (Classical.not_not.1 fun hne => this (.inl hne)).symm
      · simp only [List.mem_append, not_or] at hl
        rw [Memory.read, Memory.read, lookupCell_none hl.1.1, State.fstcdMem, lookupCell_none hl.1.2]
    · rintro c hc rfl
      obtain ⟨b, hb, rfl⟩ := List.mem_map.1 hc
      exact ha hb

/-- No byte of a device, and none beyond the address space, is written. -/
theorem State.takeFstcd_read_outside {a : Nat} (h : 4294967296 ≤ a ∨ s.isDevice a = true) :
    (s.takeFstcd u).mem.read a = s.mem.read a := by
  rw [State.takeFstcd_mem]
  apply State.storeCells_read_outside
  rintro c hc rfl
  have := s.fstcdCells_mem u hc
  rcases h with h | h
  · omega
  · rw [this.2] at h; cases h

/-- Memory and the stored addresses stay canonical and without a device's. -/
theorem State.takeFstcd_keeps (hm : s.mem.wf = true) (hs : addrsWf s.stored = true)
    (hd : ∀ a ∈ s.stored, s.isDevice a = false) (hv : ∀ c ∈ s.mem.cells, s.isDevice c.1 = false) :
    (s.takeFstcd u).mem.wf = true ∧ addrsWf (s.takeFstcd u).stored = true ∧
      (∀ a ∈ (s.takeFstcd u).stored, s.isDevice a = false) ∧
      ∀ c ∈ (s.takeFstcd u).mem.cells, s.isDevice c.1 = false :=
  s.storeCells_keeps _ (fun _ hc => (s.fstcdCells_mem u hc).1) hm hs hd hv

end Sys2Proof.Machine
end

