-- ==== Sys2Proof/Tests/Slice0.lean ====
section
/-! SUPPORT. The model's own tests: the well-formedness smoke, one written-out word for every constructor, a few steps of the
vectors of 95_test_vectors.md, and for every statement with hypotheses a state that meets them. -/

namespace Sys2Proof.Tests

open Sys2Proof.Machine

/-! ## Well-formedness: an ill-formed term for each check -/

theorem test_wf_push_sp : Instr.wellFormed (.pushReg 15#4) = false := by decide
theorem test_wf_pop_sp : Instr.wellFormed (.popReg 15#4) = false := by decide
theorem test_wf_push_unnamed : Instr.wellFormed (.pushCtl 8#4) = false ∧ Instr.wellFormed (.pushCtl 0#4) = true := by decide
theorem test_wf_pop_pc : Instr.wellFormed (.popCtl 0#4) = false ∧ Instr.wellFormed (.popCtl 13#4) = false := by decide
theorem test_wf_write_pc : Instr.wellFormed (.movToCtl 0#4 3#4) = false ∧ Instr.wellFormed (.movToCtl 10#4 3#4) = false := by
  decide
theorem test_wf_read_unnamed : Instr.wellFormed (.movFromCtl 3#4 9#4) = false ∧ Instr.wellFormed (.movFromCtl 3#4 0#4) = true := by
  decide
theorem test_wf_shadow : Instr.wellFormed (.movToShadow 1#4 2#4) = false ∧ Instr.wellFormed (.movFromShadow 1#4 2#4) = false := by
  decide

/-- An implementation without the FPU. -/
def noFpu : Config := { Config.atReset with hasFpu := false }
/-- An implementation with the FPU but without PUSH FRn and POP FRn. -/
def noFpuStack : Config := { Config.atReset with hasFpuPushPop := false }

theorem test_present_fpu : Instr.present noFpu (.fadd 1#4 2#4) = false ∧ Instr.present Config.atReset (.fadd 1#4 2#4) = true := by
  decide
theorem test_present_fpu_stack : Instr.present noFpuStack (.pushFpu 1#4) = false ∧ Instr.present noFpu (.popFpu 1#4) = false := by
  decide

/-! ## Decoding: a word written out for every constructor -/

/-- Words of block 0, from the `match` and `fields` columns of the opcode table (30_encoding.md R91), fields n = 4, m = 3. -/
theorem test_decode_block_0 :
    decodeWord 0b0000000001000011#16 = .ok (.movbStore 4#4 3#4) ∧
    decodeWord 0b0000000101000011#16 = .ok (.movwStore 4#4 3#4) ∧
    decodeWord 0b0000001001000011#16 = .ok (.movlStore 4#4 3#4) ∧
    decodeWord 0b0000001101000011#16 = .ok (.movubLoad 4#4 3#4) ∧
    decodeWord 0b0000010001000011#16 = .ok (.movbStoreDlr 4#4 3#4) ∧
    decodeWord 0b0000010101000011#16 = .ok (.movwStoreDlr 4#4 3#4) ∧
    decodeWord 0b0000011001000011#16 = .ok (.movlStoreDlr 4#4 3#4) ∧
    decodeWord 0b0000011101000011#16 = .ok (.movubLoadDlr 4#4 3#4) ∧
    decodeWord 0b0000100001000011#16 = .ok (.movbLoad 4#4 3#4) ∧
    decodeWord 0b0000100101000011#16 = .ok (.movwLoad 4#4 3#4) ∧
    decodeWord 0b0000101001000011#16 = .ok (.movlLoad 4#4 3#4) ∧
    decodeWord 0b0000101101000011#16 = .ok (.movuwLoad 4#4 3#4) ∧
    decodeWord 0b0000110001000011#16 = .ok (.movbLoadDlr 4#4 3#4) ∧
    decodeWord 0b0000110101000011#16 = .ok (.movwLoadDlr 4#4 3#4) ∧
    decodeWord 0b0000111001000011#16 = .ok (.movlLoadDlr 4#4 3#4) ∧
    decodeWord 0b0000111101000011#16 = .ok (.movuwLoadDlr 4#4 3#4) := by
  decide

/-- Words of block 1, from the `match` and `fields` columns of the opcode table (30_encoding.md R91), fields n = 4, m = 3. -/
theorem test_decode_block_1 :
    decodeWord 0b0001000001000011#16 = .ok (.addReg 4#4 3#4) ∧
    decodeWord 0b0001000101000011#16 = .ok (.subReg 4#4 3#4) ∧
    decodeWord 0b0001001001000011#16 = .ok (.adcReg 4#4 3#4) ∧
    decodeWord 0b0001001101000011#16 = .ok (.sbbReg 4#4 3#4) ∧
    decodeWord 0b0001010001000011#16 = .ok (.tstReg 4#4 3#4) ∧
    decodeWord 0b0001010101000011#16 = .ok (.andReg 4#4 3#4) ∧
    decodeWord 0b0001011001000011#16 = .ok (.orReg 4#4 3#4) ∧
    decodeWord 0b0001011101000011#16 = .ok (.xorReg 4#4 3#4) ∧
    decodeWord 0b0001100001000011#16 = .ok (.movReg 4#4 3#4) ∧
    decodeWord 0b0001110001000011#16 = .ok (.cmpeqReg 4#4 3#4) ∧
    decodeWord 0b0001110101000011#16 = .ok (.cmphiReg 4#4 3#4) ∧
    decodeWord 0b0001111001000011#16 = .ok (.cmpgtReg 4#4 3#4) := by
  decide

/-- Words of block 2, from the `match` and `fields` columns of the opcode table (30_encoding.md R91), fields n = 4, m = 3. -/
theorem test_decode_block_2 :
    decodeWord 0b0010000010010110#16 = .ok (.braDisp 0x96#8) ∧
    decodeWord 0b0010000110010110#16 = .ok (.bsrDisp 0x96#8) ∧
    decodeWord 0b0010001010010110#16 = .ok (.btDisp 0x96#8) ∧
    decodeWord 0b0010001110010110#16 = .ok (.bfDisp 0x96#8) ∧
    decodeWord 0b0010010010010110#16 = .ok (.ldiz8 0x96#8) ∧
    decodeWord 0b0010010110010110#16 = .ok (.ldin8 0x96#8) ∧
    decodeWord 0b0010011010010110#16 = .ok (.ldish 0x96#8) ∧
    decodeWord 0b0010011101000101#16 = .ok (.movuwLoadSp 4#4 5#4) ∧
    decodeWord 0b0010100001000101#16 = .ok (.movlStoreSp 4#4 5#4) ∧
    decodeWord 0b0010100101000101#16 = .ok (.movwStoreSp 4#4 5#4) ∧
    decodeWord 0b0010101001000101#16 = .ok (.movlLoadSp 4#4 5#4) ∧
    decodeWord 0b0010101101000101#16 = .ok (.movwLoadSp 4#4 5#4) ∧
    decodeWord 0b0010110001000101#16 = .ok (.cmpeqImmU 4#4 5#4) ∧
    decodeWord 0b0010110101000101#16 = .ok (.cmpeqImmN 4#4 5#4) ∧
    decodeWord 0b0010111001000101#16 = .ok (.cmpgtImm 4#4 5#4) ∧
    decodeWord 0b0010111101000101#16 = .ok (.cmpgeImm 4#4 5#4) := by
  decide

/-- Words of block 3 no operand, from the `match` and `fields` columns of the opcode table (30_encoding.md R91), fields n = 4, m = 3. -/
theorem test_decode_block_3_no_operand :
    decodeWord 0b0011000000000000#16 = .ok .nop ∧
    decodeWord 0b0011000000010000#16 = .ok .rts ∧
    decodeWord 0b0011000000100000#16 = .ok .sleep ∧
    decodeWord 0b0011000000110000#16 = .ok .breakpoint ∧
    decodeWord 0b0011000001000000#16 = .ok .clrt ∧
    decodeWord 0b0011000001010000#16 = .ok .sett ∧
    decodeWord 0b0011000001100000#16 = .ok .clrs ∧
    decodeWord 0b0011000001110000#16 = .ok .sets ∧
    decodeWord 0b0011000010000000#16 = .ok .nott ∧
    decodeWord 0b0011000010010000#16 = .ok .nots ∧
    decodeWord 0b0011000010100000#16 = .ok .ldish16Zero ∧
    decodeWord 0b0011000010110000#16 = .ok .ldish16Ones ∧
    decodeWord 0b0011000011000000#16 = .ok .rte := by
  decide

/-- Words of block 3 flow, from the `match` and `fields` columns of the opcode table (30_encoding.md R91), fields n = 4, m = 3. -/
theorem test_decode_block_3_flow :
    decodeWord 0b0011000101001000#16 = .ok (.pushReg 4#4) ∧
    decodeWord 0b0011000101001001#16 = .ok (.pushCtl 4#4) ∧
    decodeWord 0b0011000101001010#16 = .ok (.popReg 4#4) ∧
    decodeWord 0b0011000101001011#16 = .ok (.popCtl 4#4) ∧
    decodeWord 0b0011000101001100#16 = .ok (.cmppl 4#4) ∧
    decodeWord 0b0011000101001101#16 = .ok (.cmppz 4#4) ∧
    decodeWord 0b0011001001000000#16 = .ok (.braReg 4#4) ∧
    decodeWord 0b0011001001000001#16 = .ok (.bsrReg 4#4) ∧
    decodeWord 0b0011001001000010#16 = .ok (.btReg 4#4) ∧
    decodeWord 0b0011001001000011#16 = .ok (.bfReg 4#4) ∧
    decodeWord 0b0011001001000100#16 = .ok (.extuB 4#4) ∧
    decodeWord 0b0011001001000101#16 = .ok (.extuW 4#4) ∧
    decodeWord 0b0011001001000110#16 = .ok (.extsB 4#4) ∧
    decodeWord 0b0011001001000111#16 = .ok (.extsW 4#4) := by
  decide

/-- Words of block 3 shift, from the `match` and `fields` columns of the opcode table (30_encoding.md R91), fields n = 4, m = 3. -/
theorem test_decode_block_3_shift :
    decodeWord 0b0011001101000000#16 = .ok (.notReg 4#4) ∧
    decodeWord 0b0011001101000001#16 = .ok (.negReg 4#4) ∧
    decodeWord 0b0011001101000010#16 = .ok (.negcReg 4#4) ∧
    decodeWord 0b0011001101000011#16 = .ok (.movnt 4#4) ∧
    decodeWord 0b0011001101000100#16 = .ok (.rotl 4#4) ∧
    decodeWord 0b0011001101000101#16 = .ok (.rotr 4#4) ∧
    decodeWord 0b0011001101000110#16 = .ok (.rotcl 4#4) ∧
    decodeWord 0b0011001101000111#16 = .ok (.rotcr 4#4) ∧
    decodeWord 0b0011001101001000#16 = .ok (.shll 4#4) ∧
    decodeWord 0b0011001101001001#16 = .ok (.shlr 4#4) ∧
    decodeWord 0b0011001101001010#16 = .ok (.shar 4#4) ∧
    decodeWord 0b0011010001000000#16 = .ok (.shll1 4#4) ∧
    decodeWord 0b0011010001000001#16 = .ok (.shll2 4#4) ∧
    decodeWord 0b0011010001000010#16 = .ok (.shll4 4#4) ∧
    decodeWord 0b0011010001000011#16 = .ok (.shll8 4#4) ∧
    decodeWord 0b0011010001000100#16 = .ok (.shlr1 4#4) ∧
    decodeWord 0b0011010001000101#16 = .ok (.shlr2 4#4) ∧
    decodeWord 0b0011010001000110#16 = .ok (.shlr4 4#4) ∧
    decodeWord 0b0011010001000111#16 = .ok (.shlr8 4#4) ∧
    decodeWord 0b0011010001001000#16 = .ok (.shar1 4#4) ∧
    decodeWord 0b0011010001001001#16 = .ok (.shar2 4#4) ∧
    decodeWord 0b0011010001001010#16 = .ok (.shar4 4#4) ∧
    decodeWord 0b0011010001001011#16 = .ok (.shar8 4#4) ∧
    decodeWord 0b0011010001001100#16 = .ok (.shll16 4#4) ∧
    decodeWord 0b0011010001001101#16 = .ok (.shlr16 4#4) ∧
    decodeWord 0b0011010001001110#16 = .ok (.shar16 4#4) ∧
    decodeWord 0b0011010001001111#16 = .ok (.sharsx 4#4) := by
  decide

/-- Words of block 3 other, from the `match` and `fields` columns of the opcode table (30_encoding.md R91), fields n = 4, m = 3. -/
theorem test_decode_block_3_other :
    decodeWord 0b0011011001010011#16 = .ok (.trap 5#4) ∧
    decodeWord 0b0011011001000110#16 = .ok (.shld 4#4) ∧
    decodeWord 0b0011011001000111#16 = .ok (.shad 4#4) ∧
    decodeWord 0b0011011001001101#16 = .ok (.cmphsDlr 4#4) ∧
    decodeWord 0b0011011001001110#16 = .ok (.cmpgeDlr 4#4) ∧
    decodeWord 0b0011011001001111#16 = .ok (.movt 4#4) ∧
    decodeWord 0b0011011101000000#16 = .ok (.swapB 4#4) ∧
    decodeWord 0b0011011101000001#16 = .ok (.swapW 4#4) ∧
    decodeWord 0b0011011101000100#16 = .ok (.swapLb 4#4) ∧
    decodeWord 0b0011100001000010#16 = .ok (.pushFpu 4#4) ∧
    decodeWord 0b0011100001000011#16 = .ok (.popFpu 4#4) := by
  decide

/-- Words of block 4, from the `match` and `fields` columns of the opcode table (30_encoding.md R91), fields n = 4, m = 3. -/
theorem test_decode_block_4 :
    decodeWord 0b0100100001000011#16 = .ok (.movToCtl 4#4 3#4) ∧
    decodeWord 0b0100100101000011#16 = .ok (.movFromCtl 4#4 3#4) ∧
    decodeWord 0b0100101001000011#16 = .ok (.movToShadow 4#4 3#4) ∧
    decodeWord 0b0100101101000011#16 = .ok (.movFromShadow 4#4 3#4) ∧
    decodeWord 0b0100110001000011#16 = .ok (.leaB 4#4 3#4) ∧
    decodeWord 0b0100110101000011#16 = .ok (.leaW 4#4 3#4) ∧
    decodeWord 0b0100111001000011#16 = .ok (.leaL 4#4 3#4) ∧
    decodeWord 0b0100111101000011#16 = .ok (.leaQ 4#4 3#4) := by
  decide

/-- Words of block 5, from the `match` and `fields` columns of the opcode table (30_encoding.md R91), fields n = 4, m = 3. -/
theorem test_decode_block_5 :
    decodeWord 0b0101011001000011#16 = .ok (.muls 4#4 3#4) ∧
    decodeWord 0b0101011101000011#16 = .ok (.mulu 4#4 3#4) ∧
    decodeWord 0b0101100001000011#16 = .ok (.addDlr 4#4 3#4) ∧
    decodeWord 0b0101100101000011#16 = .ok (.subDlr 4#4 3#4) ∧
    decodeWord 0b0101110101000011#16 = .ok (.andDlr 4#4 3#4) ∧
    decodeWord 0b0101111001000011#16 = .ok (.orDlr 4#4 3#4) ∧
    decodeWord 0b0101111101000011#16 = .ok (.xorDlr 4#4 3#4) := by
  decide

/-- Words of block 8, from the `match` and `fields` columns of the opcode table (30_encoding.md R91), fields n = 4, m = 3. -/
theorem test_decode_block_8 :
    decodeWord 0b1000000101000011#16 = .ok (.movlStoreDisp4 4#4 3#4) ∧
    decodeWord 0b1000001001000011#16 = .ok (.movlStoreDisp8 4#4 3#4) ∧
    decodeWord 0b1000001101000011#16 = .ok (.movlStoreDisp12 4#4 3#4) ∧
    decodeWord 0b1000010001000011#16 = .ok (.movlStoreDisp16 4#4 3#4) ∧
    decodeWord 0b1000010101000011#16 = .ok (.movlStoreDisp20 4#4 3#4) ∧
    decodeWord 0b1000011001000011#16 = .ok (.movlStoreDisp24 4#4 3#4) ∧
    decodeWord 0b1000011101000011#16 = .ok (.movlStoreDisp28 4#4 3#4) ∧
    decodeWord 0b1000100101000011#16 = .ok (.movlLoadDisp4 4#4 3#4) ∧
    decodeWord 0b1000101001000011#16 = .ok (.movlLoadDisp8 4#4 3#4) ∧
    decodeWord 0b1000101101000011#16 = .ok (.movlLoadDisp12 4#4 3#4) ∧
    decodeWord 0b1000110001000011#16 = .ok (.movlLoadDisp16 4#4 3#4) ∧
    decodeWord 0b1000110101000011#16 = .ok (.movlLoadDisp20 4#4 3#4) ∧
    decodeWord 0b1000111001000011#16 = .ok (.movlLoadDisp24 4#4 3#4) ∧
    decodeWord 0b1000111101000011#16 = .ok (.movlLoadDisp28 4#4 3#4) := by
  decide

/-- Words of block 9, from the `match` and `fields` columns of the opcode table (30_encoding.md R91), fields n = 4, m = 3. -/
theorem test_decode_block_9 :
    decodeWord 0b1001000001000011#16 = .ok (.fmovsStore 4#4 3#4) ∧
    decodeWord 0b1001000101000011#16 = .ok (.fmovdStore 4#4 3#4) ∧
    decodeWord 0b1001001001000011#16 = .ok (.fmovsStoreDlr 4#4 3#4) ∧
    decodeWord 0b1001001101000011#16 = .ok (.fmovdStoreDlr 4#4 3#4) ∧
    decodeWord 0b1001010001000011#16 = .ok (.fmovsLoad 4#4 3#4) ∧
    decodeWord 0b1001010101000011#16 = .ok (.fmovdLoad 4#4 3#4) ∧
    decodeWord 0b1001011001000011#16 = .ok (.fmovsLoadDlr 4#4 3#4) ∧
    decodeWord 0b1001011101000011#16 = .ok (.fmovdLoadDlr 4#4 3#4) ∧
    decodeWord 0b1001100001000011#16 = .ok (.fadd 4#4 3#4) ∧
    decodeWord 0b1001100101000011#16 = .ok (.fsub 4#4 3#4) ∧
    decodeWord 0b1001101001000011#16 = .ok (.fmul 4#4 3#4) ∧
    decodeWord 0b1001110001000011#16 = .ok (.fcmpeq 4#4 3#4) ∧
    decodeWord 0b1001110101000011#16 = .ok (.fcmpgt 4#4 3#4) ∧
    decodeWord 0b1001111001000011#16 = .ok (.fmovReg 4#4 3#4) ∧
    decodeWord 0b1001111101000000#16 = .ok (.fldcf 4#4) ∧
    decodeWord 0b1001111101000001#16 = .ok (.fldcd 4#4) ∧
    decodeWord 0b1001111101000010#16 = .ok (.fldci 4#4) ∧
    decodeWord 0b1001111101000011#16 = .ok (.fldch 4#4) ∧
    decodeWord 0b1001111101000100#16 = .ok (.fstcf 4#4) ∧
    decodeWord 0b1001111101000101#16 = .ok (.fstcd 4#4) ∧
    decodeWord 0b1001111101000110#16 = .ok (.fstci 4#4) ∧
    decodeWord 0b1001111101000111#16 = .ok (.fstch 4#4) ∧
    decodeWord 0b1001111101001000#16 = .ok (.fneg 4#4) ∧
    decodeWord 0b1001111101001001#16 = .ok (.fabs 4#4) := by
  decide

/-- Words of block A to D, from the `match` and `fields` columns of the opcode table (30_encoding.md R91), fields n = 4, m = 3. -/
theorem test_decode_block_A_to_D :
    decodeWord 0b1010000100100011#16 = .ok (.ldiz12 0x123#12) ∧
    decodeWord 0b1011000100100011#16 = .ok (.ldin12 0x123#12) ∧
    decodeWord 0b1100010010010110#16 = .ok (.addImm 4#4 0x96#8) ∧
    decodeWord 0b1101010010010110#16 = .ok (.movImm 4#4 0x96#8) := by
  decide

/-- Words of 30_encoding.md R104 that are no instruction. -/
theorem test_decode_reserved :
    (decodeWord 0x1900#16).isOk = false ∧ (decodeWord 0x30D0#16).isOk = false ∧ (decodeWord 0x3001#16).isOk = false ∧
    (decodeWord 0x8043#16).isOk = false ∧ (decodeWord 0x8843#16).isOk = false ∧ (decodeWord 0x9B00#16).isOk = false ∧
    (decodeWord 0x9F0A#16).isOk = false ∧ (decodeWord 0x6000#16).isOk = false ∧ (decodeWord 0xF000#16).isOk = false := by
  decide

theorem test_decodeTableWord : decodeTableWord 16 0x1043 = some (.addReg 4#4 3#4) ∧ decodeTableWord 16 0x1900 = none := by decide

/-! ## States -/

/-- The start state of 95_test_vectors.md: pc 0x0100, MD set, BL and RB clear, VBR 0x8000, R15 0x1000. -/
def start : State :=
  { State.reset with
    pc := 0x0100#32, sr := StatusReg.ofWord 0x40000000#32, vbr := 0x8000#32, regs := State.reset.regs.set 15 0x1000#32 }

/-- Only 0x0000..0xFFFF exists; 0x4000.. cannot be written, 0x5000.. cannot be read, 0x6000.. cannot be executed, 0x7000..
is a device. -/
def holes : List Region :=
  [{ base := 0x4000, size := 0x1000, kind := .memory, read := true, write := false, exec := true },
   { base := 0x5000, size := 0x1000, kind := .memory, read := false, write := true, exec := true },
   { base := 0x6000, size := 0x1000, kind := .memory, read := true, write := true, exec := false },
   { base := 0x7000, size := 0x1000, kind := .device, read := true, write := true, exec := false },
   { base := 0, size := 0x10000, kind := .memory, read := true, write := true, exec := true }]

/-- `start` over that address map. -/
def holed : State := { start with cfg := { Config.atReset with memMap := holes } }

/-- `start` with R4 set. -/
def at4 (s : State) (v : Word) : State := s.setReg 4#4 v

/-- Bytes placed in memory. -/
def place (s : State) (a : Nat) (bs : List Byte) : State :=
  { s with mem := (bs.zipIdx.foldl (fun m b => m.write (a + b.2) b.1) s.mem) }

/-- What a next state shows; nothing of a stop. -/
def after (o : Outcome) (f : State → Bool) : Bool :=
  match o with
  | .next t => f t
  | .fault _ | .refused _ => false

/-- One step of the word `w`. -/
def run (s : State) (w : Nat) : Outcome := step (s.withFetchWord 16 w)

/-! ## Steps, from 95_test_vectors.md -/

theorem test_store_word_bytes :
    after (run (at4 (start.setReg 3#4 0x11223344#32) 0x2000#32) 0x0243)
      (fun t => t.mem.read 0x2000 == 0x44#8 && t.mem.read 0x2003 == 0x11#8 && t.pc == 0x0102#32) = true := by decide

theorem test_store_misaligned :
    after (run (at4 start 0x2002#32) 0x0243)
      (fun t => t.exsr == 0x800A#32 && t.spc == 0x0100#32 && t.ssr == 0x40000000#32 && t.pc == 0x8008#32) = true := by decide

theorem test_load_sign_extends :
    after (run (at4 (place start 0x2000 [0x34#8, 0xF2#8]) 0x2000#32) 0x0954)
      (fun t => t.reg 5#4 == 0xFFFFF234#32) = true := by decide

theorem test_load_destination_is_dlr :
    after (run (at4 (place start 0x2000 [0x78#8, 0x56#8, 0x34#8, 0x12#8]) 0x2000#32) 0x0A04)
      (fun t => t.reg 0#4 == 0x12345678#32) = true := by decide

theorem test_load_pc_relative_scale_one :
    after (run (place (start.setReg 0#4 6#32) 0x0108 [0xEF#8, 0xBE#8, 0xAD#8, 0xDE#8]) 0x0E50)
      (fun t => t.reg 5#4 == 0xDEADBEEF#32) = true := by decide

theorem test_load_gbr_relative :
    after (run (place (({ start with gbr := 0x3000#32 } : State).setReg 0#4 2#32) 0x3008 [1#8, 2#8, 3#8, 4#8]) 0x0E51)
      (fun t => t.reg 5#4 == 0x04030201#32) = true := by decide

theorem test_load_no_such_address :
    after (run (at4 holed 0x10001#32) 0x0A54) (fun t => t.exsr == 0x8009#32) = true ∧
    after (run (at4 holed 0x10000#32) 0x0A54) (fun t => t.exsr == 0x8000#32) = true := by decide

theorem test_push :
    after (run (start.setReg 3#4 0x11223344#32) 0x3138)
      (fun t => t.reg 15#4 == 0x0FFC#32 && t.mem.read 0x0FFC == 0x44#8) = true := by decide

theorem test_lea_pc_scaled :
    after (run (({ start with pc := 0x0200#32 } : State).setReg 0#4 3#32) 0x4E50)
      (fun t => t.reg 5#4 == 0x020E#32) = true := by decide

theorem test_add_wraps :
    after (run (at4 (start.setReg 3#4 1#32) 0xFFFFFFFF#32) 0x1043) (fun t => t.reg 4#4 == 0#32 && !t.sr.t) = true := by
  decide

theorem test_sbb_borrows :
    after (run (at4 ((start.setT true).setReg 3#4 5#32) 5#32) 0x1343)
      (fun t => t.reg 4#4 == 0xFFFFFFFF#32 && t.sr.t) = true := by decide

theorem test_bra_back_on_itself :
    after (run start 0x20FF) (fun t => t.pc == 0x0100#32) = true := by decide

theorem test_trap_enters :
    after (run start 0x3653)
      (fun t => t.exsr == 0xC085#32 && t.spc == 0x0102#32 && t.pc == 0x8010#32 && t.sr.toWord == 0x70000000#32) = true := by
  decide

theorem test_rte_clears_rb :
    after (run { start with ssr := 0xFFFFFFFF#32, spc := 0x1234#32, ssp := 0x9999#32 } 0x30C0)
      (fun t => t.sr.toWord == 0xDFFFFFFF#32 && t.pc == 0x1234#32 && t.reg 15#4 == 0x9999#32) = true := by decide

theorem test_trap_while_blocked :
    run State.reset 0x3653 = .fault (.exceptionWhileBlocked 0xC085#16 0#32) := rfl

theorem test_shad_by_negative_amount :
    after (run (at4 (start.setReg 0#4 0xFC#32) 0x80000000#32) 0x3647)
      (fun t => t.reg 4#4 == 0xF8000000#32) = true := by decide

theorem test_first_step_from_reset :
    after (run State.reset 0xC47F) (fun t => t.reg 4#4 == 0x7F#32 && t.pc == 2#32) = true := by decide

/-- A state a supplied FSTCD could give: registers of every kind, PC and memory are taken over, SR and GBR are kept, and the changed
byte counts as stored. -/
theorem test_fstcd_state_taken_over :
    let u := { (place (start.setFreg 3#4 7#64) 0x2000 [0x44#8]) with
      tbr := 0x3000#32, gbr := 0x4000#32, pc := 0x5678#32, sr := StatusReg.ofWord 0xFFFFFFFF#32 }
    let t := start.takeFstcd u
    (t.freg 3#4 == 7#64 && t.tbr == 0x3000#32 && t.gbr == 0#32 && t.pc == 0x5678#32 && t.sr == start.sr &&
      t.mem.read 0x2000 == 0x44#8 && t.stored == [0x2000] && t.mem.wf) = true := by decide

theorem test_higher_class_first :
    after (step { start with pending := { general := false, timer := true, uart := true, spi := false },
                             sr := StatusReg.ofWord 0x4000000C#32, cfg := { Config.atReset with uartClass := .high } })
      (fun t => t.exsr == 0xC002#32 && t.spc == 0x0100#32 && t.pc == 0x8010#32) = true := by decide

/-! ## Witnesses: states that meet the hypotheses of the statements -/

/-- No source is pending in any set to come. -/
theorem awake_of {s : State} (h : ∀ src, s.present.pending.has src = false) (hs : s.sleeping = false) : Awake s :=
  ⟨fun src c => by rw [Candidate, h src] at c; exact absurd c.1 Bool.false_ne_true, hs⟩

/-- A step that fetches `w`. -/
theorem fetches_of {s : State} {w : Half} (h : ∀ src, s.present.pending.has src = false) (hs : s.sleeping = false)
    (hp : s.pc.getLsbD 0 = false) (hc : s.checkAccess s.pc 2 Region.exec 0x800B#16 0x8003#16 = none)
    (hm : s.selfModifiedAt = none) (hw : s.le16 s.pc = w) : Fetches s w :=
  ⟨awake_of h hs, ⟨hp, (s.checkAccess_eq_none.1 hc).2⟩, hm, hw⟩

/-- An access with no region at its first byte is not mapped. -/
theorem not_mapped {s : State} {a : Word} {k : Nat} (hk : 0 < k) (h : regionAt s.cfg (byteAddr a 0) = none) :
    ¬ Mapped s a k := fun g => by obtain ⟨r, hr⟩ := g 0 hk; rw [h] at hr; cases hr

/-- An access whose first region does not allow it. -/
theorem not_allowed {al : Region → Bool} {s : State} {a : Word} {k : Nat} (hk : 0 < k)
    (h : (regionAt s.cfg (byteAddr a 0)).any al = false) : ¬ Allows al s a k := fun g => by
  obtain ⟨r, hr, ha⟩ := g 0 hk; rw [hr] at h; simp [ha] at h

/-- An access whose bytes all have a region. -/
theorem mapped_of {s : State} {a : Word} {k : Nat}
    (h : ((List.range k).all fun i => (regionAt s.cfg (byteAddr a i)).isSome) = true) : Mapped s a k := fun i hi =>
  Option.isSome_iff_exists.1 (List.all_eq_true.1 h i (List.mem_range.2 hi))

theorem witness_EncodeOfDecode : decodeWord 0x1043#16 = .ok (.addReg 4#4 3#4) := by decide

/-- Reserved words that a step fetches: no instruction, an operand value, an absent part. -/
theorem witness_ReservedWords :
    (Fetches (start.withFetchWord 16 0x1900) 0x1900#16 ∧ ReservedWord start.cfg 0x1900#16) ∧
    (Fetches (start.withFetchWord 16 0x3189) 0x3189#16 ∧ ReservedWord start.cfg 0x3189#16) ∧
    (Fetches (({ start with cfg := noFpu } : State).withFetchWord 16 0x9843) 0x9843#16 ∧ ReservedWord noFpu 0x9843#16) := by
  refine ⟨⟨fetches_of ?_ ?_ ?_ ?_ ?_ ?_, ?_⟩, ⟨fetches_of ?_ ?_ ?_ ?_ ?_ ?_, ?_⟩, ⟨fetches_of ?_ ?_ ?_ ?_ ?_ ?_, ?_⟩⟩ <;>
    first | decide | (intro src; cases src <;> decide) | (show _ = true; decide)

theorem witness_NotReserved : ¬ ReservedWord Config.atReset 0x0000#16 ∧ ¬ ReservedWord Config.atReset 0xDFFF#16 ∧
    ¬ ReservedWord noFpu 0x31E8#16 := by
  refine ⟨?_, ?_, ?_⟩ <;> (intro h; revert h; show ¬ (_ = true); decide)

theorem witness_StepRuns :
    Fetches (start.withFetchWord 16 0x1043) 0x1043#16 ∧ decodeWord 0x1043#16 = .ok (.addReg 4#4 3#4) ∧
    ∀ a ∈ accessAddrs start.pc 2, start.isDevice a = false := by
  refine ⟨fetches_of ?_ ?_ ?_ ?_ ?_ ?_, ?_, ?_⟩ <;> first | decide | (intro src; cases src <;> decide)

theorem witness_FetchChecks :
    ({ holed with pc := 1#32 } : State).pc.getLsbD 0 = true ∧
    (({ holed with pc := 0x10000#32 } : State).pc.getLsbD 0 = false ∧ ¬ Mapped holed 0x10000#32 2) ∧
    (({ holed with pc := 0x6FFE#32 } : State).pc.getLsbD 0 = false ∧ Mapped holed 0x6FFE#32 2 ∧
      ¬ Allows Region.exec holed 0x6FFE#32 2) ∧
    Fetchable { holed with pc := 0xFFFE#32 } :=
  ⟨by decide, ⟨by decide, not_mapped (by decide) (by decide)⟩,
    ⟨by decide, mapped_of (by decide), not_allowed (by decide) (by decide)⟩,
    by decide, (State.checkAccess_eq_none { holed with pc := 0xFFFE#32 } (mis := 0x800B#16) (den := 0x8003#16)).1 (by decide) |>.2⟩

theorem witness_FetchFault :
    Awake { start with pc := 0x0101#32 } ∧ ({ start with pc := 0x0101#32 } : State).present.fetch = .error 0x800B#16 ∧
    start.sr.bl = false ∧ start.cfg.faultSpc = .faulting :=
  ⟨awake_of (by intro src; cases src <;> decide) (by decide), rfl, by decide, by decide⟩

/-- A failing fetch while SR.BL = 1, and one with the following address saved. -/
theorem witness_FetchRaises :
    (Awake { State.reset with pc := 1#32 } ∧ ({ State.reset with pc := 1#32 } : State).present.fetch = .error 0x800B#16) ∧
    (Awake { holed with pc := 0x6000#32, cfg := { holed.cfg with faultSpc := .following } } ∧
      ({ holed with pc := 0x6000#32, cfg := { holed.cfg with faultSpc := .following } } : State).present.fetch
        = .error 0x8003#16) :=
  ⟨⟨awake_of (by intro src; cases src <;> decide) (by decide), rfl⟩,
    awake_of (by intro src; cases src <;> decide) (by decide), rfl⟩

/-- The timer and the general source pending, all classes admitted. -/
def requested : State :=
  { start with pending := { general := true, timer := true, uart := false, spi := false },
               sr := StatusReg.ofWord 0x4000000C#32 }

theorem witness_Interrupt :
    (Candidate requested.present .timer ∧ Candidate requested.present .general) ∧
    ((∀ src, ¬ Candidate start.present src) ∧ start.sleeping = false) ∧
    ((∀ src, ¬ Candidate ({ start with sleeping := true } : State).present src) ∧
      ({ start with sleeping := true } : State).sleeping = true) :=
  ⟨⟨⟨by decide, by decide, .inl (by decide)⟩, by decide, by decide, .inl (by decide)⟩,
    ⟨(awake_of (by intro src; cases src <;> decide) rfl).1, rfl⟩,
    ⟨fun src c => by have h := c.1; revert h; cases src <;> decide, rfl⟩⟩

theorem witness_InvariantKept : (start.withFetchWord 16 0x1043).inv = true ∧ ∃ t, run start 0x1043 = .next t :=
  ⟨by decide, _, rfl⟩

theorem witness_InvariantAtReset : start.inv = true := by decide

/-- For TakingAnException, Break and Trap: SR.BL clear and set. -/
theorem witness_BlockedOrNot : start.sr.bl = false ∧ start.cfg.faultSpc = .faulting ∧ State.reset.sr.bl = true := by decide

theorem witness_Sleep :
    ¬ SleepInvalid start ∧ SleepInvalid { start with cfg := { Config.atReset with sleepRule := .whenMasked } } ∧
    (({ start with sleeping := true } : State).sleeping = true ∧
      ∀ src, ¬ Candidate ({ start with sleeping := true } : State).present src) ∧
    (({ requested with sleeping := true } : State).sleeping = true ∧
      ∃ src, Candidate ({ requested with sleeping := true } : State).present src) := by
  refine ⟨?_, .inl ⟨rfl, .inr (by decide)⟩, ⟨rfl, fun src c => ?_⟩, rfl, .timer, by decide, by decide, .inl (by decide)⟩
  · rintro (⟨h, -⟩ | ⟨h, -⟩) <;> revert h <;> decide
  · have h := c.1; revert h; cases src <;> decide

/-- For ControlRegisterMoves and PushAndPopOfAControlRegister: both ends of each list of numbers. -/
theorem witness_ControlNumbers :
    (1#4 ∉ [0#4, 8#4, 9#4, 10#4, 13#4, 14#4, 15#4] ∧ 12#4 ∉ [0#4, 8#4, 9#4, 10#4, 13#4, 14#4, 15#4]) ∧
    0#4 ∈ [0#4, 8#4, 9#4, 10#4, 13#4, 14#4, 15#4] ∧ 0#4 ∉ [8#4, 9#4, 10#4, 13#4, 14#4, 15#4] ∧
    15#4 ∈ [8#4, 9#4, 10#4, 13#4, 14#4, 15#4] ∧ start.creg 0#4 = some 0x0102#32 ∧ start.creg 8#4 = none := by decide

/-- A stack at 0x1000, one that is not aligned, one at a hole. -/
theorem witness_PushPop :
    (Writable start (start.reg sp - 4#32) 4 ∧ Readable start (start.reg sp) 4 ∧ Writable start (start.reg sp - 8#32) 8 ∧
      Readable start (start.reg sp) 8) ∧
    (Writable (start.setReg sp 0#32) (0#32 - 4#32) 4 ∧ Readable (start.setReg sp 0xFFFFFFFC#32) 0xFFFFFFFC#32 4) ∧
    ((start.setReg sp 0x1002#32).memWrite 0x0FFE#32 4 (start.reg 3#4) = .error 0x800A#16 ∧
      (start.setReg sp 0x1002#32).memRead 0x1002#32 4 = .error 0x8009#16 ∧ (14#4 : Reg) ≠ sp) := by
  refine ⟨⟨(State.writable_iff _).2 ?_, (State.readable_iff _).2 ?_, (State.writable_iff _).2 ?_,
    (State.readable_iff _).2 ?_⟩, ⟨(State.writable_iff _).2 ?_, (State.readable_iff _).2 ?_⟩,
    (State.memWrite_error _).2 ?_, (State.memRead_error _).2 ?_, ?_⟩ <;> decide

/-- For PushAndPopOfAnFpuRegister, FpuArithmeticAndCompares, FpuConversions and the FMOV statements. -/
theorem witness_FpuStack : start.cfg.hasFpu = true ∧ start.cfg.hasFpuPushPop = true := by decide

/-- Addresses of each operand form at which a load of each size runs, and addresses at which each code is raised. -/
theorem witness_Loads :
    (Readable (at4 start 0xFFFFFFFF#32) ((at4 start 0xFFFFFFFF#32).eaReg 4#4) 1 ∧
      Readable (at4 start 0xFFFFFFFE#32) ((at4 start 0xFFFFFFFE#32).eaReg 4#4) 2 ∧
      Readable (at4 start 0xFFFFFFFC#32) ((at4 start 0xFFFFFFFC#32).eaReg 4#4) 4) ∧
    (Readable start (start.eaIdx 1#32 0#4) 1 ∧ Readable start (start.eaIdx 2#32 1#4) 2 ∧
      Readable start (start.eaIdx 4#32 15#4) 4) ∧
    (Readable start (start.eaSp 2#32 15#4) 2 ∧ Readable start (start.eaSp 4#32 0#4) 4) ∧
    (Readable start (start.eaDsp 4#4 1#32) 4 ∧ Readable (at4 start 0xFFFFFFF0#32) ((at4 start 0xFFFFFFF0#32).eaDsp 4#4 7#32) 4) := by
  refine ⟨⟨?_, ?_, ?_⟩, ⟨?_, ?_, ?_⟩, ⟨?_, ?_⟩, ?_, ?_⟩ <;> (rw [State.readable_iff]; decide)

/-- For the four statements of loads: every code, in every operand form. -/
theorem witness_LoadsRaise :
    (at4 holed 0x2001#32).memRead ((at4 holed 0x2001#32).eaReg 4#4) 4 = .error 0x8009#16 ∧
    (at4 holed 0x10000#32).memRead ((at4 holed 0x10000#32).eaReg 4#4) 1 = .error 0x8000#16 ∧
    (at4 holed 0x5FFE#32).memRead ((at4 holed 0x5FFE#32).eaReg 4#4) 2 = .error 0x8001#16 ∧
    holed.memRead (holed.eaIdx 1#32 0#4 + 0x10000#32) 2 = .error 0x8000#16 ∧
    (holed.setReg sp 0x5000#32).memRead ((holed.setReg sp 0x5000#32).eaSp 4#32 15#4) 4 = .error 0x8001#16 ∧
    (at4 holed 0xFFFC#32).memRead ((at4 holed 0xFFFC#32).eaDsp 4#4 1#32) 4 = .error 0x8000#16 := by
  refine ⟨?_, ?_, ?_, ?_, ?_, ?_⟩ <;> (rw [State.memRead_error]; decide)

/-- For the four statements of stores: addresses at which a store of each size runs, in every operand form. -/
theorem witness_Stores :
    (Writable (at4 start 0xFFFFFFFF#32) ((at4 start 0xFFFFFFFF#32).eaReg 4#4) 1 ∧
      Writable (at4 start 0xFFFFFFFE#32) ((at4 start 0xFFFFFFFE#32).eaReg 4#4) 2 ∧
      Writable (at4 start 0xFFFFFFFC#32) ((at4 start 0xFFFFFFFC#32).eaReg 4#4) 4) ∧
    (Writable start (start.eaIdx 1#32 0#4) 1 ∧ Writable start (start.eaIdx 2#32 1#4) 2 ∧
      Writable start (start.eaIdx 4#32 15#4) 4) ∧
    (Writable start (start.eaSp 2#32 15#4) 2 ∧ Writable start (start.eaSp 4#32 0#4) 4) ∧
    (Writable start (start.eaDsp 4#4 1#32) 4 ∧ Writable (at4 start 0xFFFFFFF0#32) ((at4 start 0xFFFFFFF0#32).eaDsp 4#4 7#32) 4) := by
  refine ⟨⟨?_, ?_, ?_⟩, ⟨?_, ?_, ?_⟩, ⟨?_, ?_⟩, ?_, ?_⟩ <;> (rw [State.writable_iff]; decide)

/-- For the four statements of stores: every code, in every operand form. -/
theorem witness_StoresRaise :
    (at4 holed 0x2001#32).memWrite ((at4 holed 0x2001#32).eaReg 4#4) 4 0#32 = .error 0x800A#16 ∧
    (at4 holed 0x10000#32).memWrite ((at4 holed 0x10000#32).eaReg 4#4) 1 0#32 = .error 0x8000#16 ∧
    (at4 holed 0x4FFE#32).memWrite ((at4 holed 0x4FFE#32).eaReg 4#4) 2 0#32 = .error 0x8002#16 ∧
    (at4 (holed.setReg 0#4 1#32) 0x10000#32).memWrite ((at4 (holed.setReg 0#4 1#32) 0x10000#32).eaIdx 4#32 4#4) 4 0#32
      = .error 0x8000#16 ∧
    (holed.setReg sp 0x4000#32).memWrite ((holed.setReg sp 0x4000#32).eaSp 4#32 15#4) 4 0#32 = .error 0x8002#16 ∧
    (at4 holed 0xFFFC#32).memWrite ((at4 holed 0xFFFC#32).eaDsp 4#4 1#32) 4 0#32 = .error 0x8000#16 := by
  refine ⟨?_, ?_, ?_, ?_, ?_, ?_⟩ <;> (rw [State.memWrite_error]; decide)

theorem witness_EffectiveAddresses : (2#4 : Reg) ≠ 0#4 ∧ (2#4 : Reg) ≠ 1#4 ∧ (15#4 : Reg) ≠ 0#4 ∧ (15#4 : Reg) ≠ 1#4 := by decide

/-- For DataReadChecks and DataWriteChecks: each check failing first, and accesses that pass at the end of a region. -/
theorem witness_DataChecks :
    ¬ AlignedOk holed 0x2001#32 2 ∧
    (AlignedOk holed 0x10000#32 4 ∧ ¬ Mapped holed 0x10000#32 4) ∧
    (AlignedOk holed 0x5000#32 8 ∧ Mapped holed 0x5000#32 8 ∧ ¬ Allows Region.read holed 0x5000#32 8) ∧
    (AlignedOk holed 0x4000#32 8 ∧ Mapped holed 0x4000#32 8 ∧ ¬ Allows Region.write holed 0x4000#32 8) ∧
    (Readable holed 0x4FFF#32 1 ∧ Writable holed 0x5FF8#32 8 ∧ Readable holed 0xFFFE#32 2) ∧
    ∃ t, start.raise 0x8009#16 = .next t :=
  ⟨by rintro (h | h) <;> revert h <;> decide, ⟨.inr (by decide), not_mapped (by decide) (by decide)⟩,
    ⟨.inr (by decide), mapped_of (by decide), not_allowed (by decide) (by decide)⟩,
    ⟨.inr (by decide), mapped_of (by decide), not_allowed (by decide) (by decide)⟩,
    ⟨(State.readable_iff _).2 (by decide), (State.writable_iff _).2 (by decide), (State.readable_iff _).2 (by decide)⟩,
    _, rfl⟩

/-- A write that passes its checks. -/
theorem writes_of {w : Nat} {s : State} {a : Word} {k : Nat} {v : BitVec w}
    (h : s.checkAccess a k Region.write 0x800A#16 0x8002#16 = none) : ∃ t, s.memWrite a k v = .ok t := by
  unfold State.memWrite
  rw [h]
  exact ⟨_, rfl⟩

theorem witness_LittleEndian :
    ((∀ x ∈ accessAddrs 0xFFFFFFFC#32 4, start.isDevice x = false) ∧ (∀ x ∈ accessAddrs 0xFFFFFFF8#32 8, start.isDevice x = false) ∧
      (∀ x ∈ accessAddrs 0xFFFFFFFF#32 1, start.isDevice x = false) ∧ ∀ x ∈ accessAddrs 0xFFFFFFFE#32 2, start.isDevice x = false) ∧
    (∃ t, start.memWrite 0xFFFFFFFC#32 4 0x11223344#32 = .ok t) ∧ (∃ t, start.memWrite 0xFFFFFFFF#32 1 0x44#8 = .ok t) ∧
    (∃ t, start.memWrite 0xFFFFFFFE#32 2 0x3344#16 = .ok t) ∧ ∃ t, start.memWrite 0xFFFFFFF8#32 8 0x1122334455667788#64 = .ok t := by
  refine ⟨⟨by decide, by decide, by decide, by decide⟩, writes_of ?_, writes_of ?_, writes_of ?_, writes_of ?_⟩ <;> decide

/-- For FmovStores and FmovLoads. -/
theorem witness_FpuMemory :
    start.cfg.hasFpu = true ∧ Readable (at4 start 0x2000#32) ((at4 start 0x2000#32).eaReg 4#4) 8 ∧
    Writable (at4 start 0x2000#32) ((at4 start 0x2000#32).eaReg 4#4) 8 ∧
    Readable start (start.eaIdx 4#32 15#4) 4 ∧ Writable start (start.eaIdx 8#32 1#4) 8 ∧
    (at4 start 0x2004#32).memWrite ((at4 start 0x2004#32).eaReg 4#4) 8 0#64 = .error 0x800A#16 ∧
    (at4 start 0x2004#32).memRead ((at4 start 0x2004#32).eaReg 4#4) 8 = .error 0x8009#16 := by
  refine ⟨?_, (State.readable_iff _).2 ?_, (State.writable_iff _).2 ?_, (State.readable_iff _).2 ?_,
    (State.writable_iff _).2 ?_, (State.memWrite_error _).2 ?_, (State.memRead_error _).2 ?_⟩ <;> decide

theorem witness_Supplied :
    ((∃ t, exec (.fldcd 15#4) start = .next t) ∧ ∃ t, exec (.fstcd 0#4) start = .next t) ∧
    start.cfg.hasFpu = true ∧ start.cfg.hasFldcd = true ∧ start.cfg.hasFstcd = true ∧
    ({ Config.atReset with hasFldcd := false } : Config).hasFldcd = false ∧
    ({ Config.atReset with hasFstcd := false } : Config).hasFstcd = false :=
  ⟨⟨⟨_, rfl⟩, _, rfl⟩, by decide⟩

theorem witness_AbsentFpu :
    (decodeWord 0x9843#16 = .ok (.fadd 4#4 3#4) ∧ noFpu.hasFpu = false ∧ nibbleA 0x9843#16 = 9#4) ∧
    (decodeWord 0x3842#16 = .ok (.pushFpu 4#4) ∧ noFpuStack.hasFpuPushPop = false ∧ nibbleA 0x3842#16 = 3#4 ∧
      nibbleB 0x3842#16 = 8#4 ∧ nibbleM 0x3842#16 = 2#4) := by decide

/-- A load, a store and an instruction without an access that answer a next state. -/
theorem witness_OnlyStores :
    (∃ t, exec (.movlLoad 5#4 4#4) start = .next t) ∧ (∃ t, exec (.movlStore 4#4 3#4) start = .next t) ∧
    (∃ t, exec (.addReg 4#4 3#4) start = .next t) ∧ ∀ n, Instr.addReg 4#4 3#4 ≠ .fstcd n :=
  ⟨⟨_, rfl⟩, ⟨_, rfl⟩, ⟨_, rfl⟩, fun _ => by simp⟩

theorem witness_ControlWriters :
    (∃ t, exec (.trap 5#4) start = .next t) ∧ (∃ t, exec (.movToCtl 6#4 3#4) start = .next t) ∧ (3#4 : CReg) ≠ 0#4 ∧
    (∀ n, Instr.trap 5#4 ≠ .fstcd n) ∧ (∀ m, Instr.movToCtl 6#4 3#4 ≠ .movToCtl 3#4 m) ∧ (∀ d, Instr.trap 5#4 ≠ .bsrDisp d) ∧ ∀ n, Instr.trap 5#4 ≠ .bsrReg n :=
  ⟨⟨_, rfl⟩, ⟨_, rfl⟩, by decide, fun _ => by simp, fun _ => by simp, fun _ => by simp, fun _ => by simp⟩

theorem witness_StatusWriters :
    ((∃ t, exec .sets start = .next t) ∧ ∀ n, Instr.sets ≠ .fstcd n) ∧ (∃ t, exec (.movToCtl 2#4 3#4) start = .next t) ∧
    ((∃ t, exec (.popCtl 2#4) start = .next t) ∧ Readable start (start.reg sp) 4) ∧ ∃ t, exec .rte start = .next t :=
  ⟨⟨⟨_, rfl⟩, fun _ => by simp⟩, ⟨_, rfl⟩, ⟨⟨_, rfl⟩, (State.readable_iff _).2 (by decide)⟩, _, rfl⟩

/-- Two states that differ in MD. -/
theorem witness_Mode :
    start.forgetMode = ({ start with sr := { start.sr with md := false } } : State).forgetMode ∧
    start ≠ { start with sr := { start.sr with md := false } } ∧
    start.ssr = ({ start with sr := { start.sr with md := false } } : State).ssr ∧
    (∀ n, Instr.sleep ≠ .movFromCtl n 2#4 ∧ Instr.sleep ≠ .movFromCtl n 12#4) ∧ Instr.sleep ≠ .pushCtl 2#4 ∧
    Instr.fstcd 3#4 ≠ .pushCtl 12#4 :=
  ⟨by decide, by decide, by decide, fun _ => ⟨by simp, by simp⟩, by decide, by decide⟩

/-- Two states that differ in every idle bit, with the same SSR. -/
theorem witness_IdleBits :
    start.forgetIdle = (start.setSr (StatusReg.ofWord (start.sr.toWord ^^^ 0xEFFFFFF2#32))).forgetIdle ∧
    start ≠ start.setSr (StatusReg.ofWord (start.sr.toWord ^^^ 0xEFFFFFF2#32)) ∧
    start.ssr = (start.setSr (StatusReg.ofWord (start.sr.toWord ^^^ 0xEFFFFFF2#32))).ssr ∧
    (∀ n, Instr.nots ≠ .movFromCtl n 2#4 ∧ Instr.nots ≠ .movFromCtl n 12#4) ∧ Instr.nots ≠ .pushCtl 2#4 ∧
    Instr.nots ≠ .pushCtl 12#4 :=
  ⟨by decide, by decide, by decide, fun _ => ⟨by simp, by simp⟩, by decide, by decide⟩

end Sys2Proof.Tests
end

section
/-! SUPPORT. SR packed into its word and unpacked again, bit for bit (10_state.md R33, R39). -/

namespace Sys2Proof.Machine

/-- One bit of a word is what packing SR puts at its place. -/
theorem ofBool_getLsbD {w : Nat} (x : BitVec w) (k : Nat) : BitVec.ofBool (x.getLsbD k) = x.extractLsb' k 1 := by
  apply BitVec.eq_of_getLsbD_eq
  intro i hi
  obtain rfl : i = 0 := by omega
  simp

/-- The fields a whole-SR write takes out of a word are adjacent, so packing them joins them to the word again. -/
@[simp] theorem StatusReg.toWord_ofWord (w : Word) : (StatusReg.ofWord w).toWord = w := by
  simp only [StatusReg.toWord, StatusReg.ofWord, ofBool_getLsbD]
  simp (disch := decide) only [BitVec.extractLsb'_append_extractLsb'_eq_extractLsb']
  exact BitVec.extractLsb'_eq_self

variable (r : StatusReg)

@[simp] theorem StatusReg.toWord_t : r.toWord.getLsbD 0 = r.t := by
  simp only [StatusReg.toWord, BitVec.getLsbD_append]; simp
@[simp] theorem StatusReg.toWord_s : r.toWord.getLsbD 1 = r.s := by
  simp only [StatusReg.toWord, BitVec.getLsbD_append]; simp
@[simp] theorem StatusReg.toWord_ipl : r.toWord.extractLsb' 2 2 = r.ipl := by
  simp (disch := decide) only [StatusReg.toWord, BitVec.extractLsb'_append_eq_of_le]
  exact BitVec.extractLsb'_append_eq_right
@[simp] theorem StatusReg.toWord_p : r.toWord.getLsbD 4 = r.p := by
  simp only [StatusReg.toWord, BitVec.getLsbD_append]; simp
@[simp] theorem StatusReg.toWord_q : r.toWord.getLsbD 5 = r.q := by
  simp only [StatusReg.toWord, BitVec.getLsbD_append]; simp
@[simp] theorem StatusReg.toWord_r : r.toWord.getLsbD 6 = r.r := by
  simp only [StatusReg.toWord, BitVec.getLsbD_append]; simp
@[simp] theorem StatusReg.toWord_o : r.toWord.getLsbD 7 = r.o := by
  simp only [StatusReg.toWord, BitVec.getLsbD_append]; simp
@[simp] theorem StatusReg.toWord_mid : r.toWord.extractLsb' 8 20 = r.mid := by
  simp (disch := decide) only [StatusReg.toWord, BitVec.extractLsb'_append_eq_of_le]
  exact BitVec.extractLsb'_append_eq_right
@[simp] theorem StatusReg.toWord_bl : r.toWord.getLsbD 28 = r.bl := by
  simp only [StatusReg.toWord, BitVec.getLsbD_append]; simp
@[simp] theorem StatusReg.toWord_rb : r.toWord.getLsbD 29 = r.rb := by
  simp only [StatusReg.toWord, BitVec.getLsbD_append]; simp
@[simp] theorem StatusReg.toWord_md : r.toWord.getLsbD 30 = r.md := by
  simp only [StatusReg.toWord, BitVec.getLsbD_append]; simp
@[simp] theorem StatusReg.toWord_top : r.toWord.getLsbD 31 = r.top := by
  simp only [StatusReg.toWord, BitVec.getLsbD_append]; simp

/-- A whole-SR write of the word SR reads as changes nothing. -/
@[simp] theorem StatusReg.ofWord_toWord : StatusReg.ofWord r.toWord = r := by
  simp only [StatusReg.ofWord, toWord_t, toWord_s, toWord_ipl, toWord_p, toWord_q, toWord_r, toWord_o, toWord_mid,
    toWord_bl, toWord_rb, toWord_md, toWord_top]

end Sys2Proof.Machine
end

section
/-! SUPPORT. Which control registers an instruction writes, in the model's terms: it keeps every control register it does
not name as a destination, and T alone of SR, or it has taken an exception (10_state.md R32 to R46). -/

namespace Sys2Proof.Machine

/-- `t` is `s` in every control register but those of `cs`; of SR, unless it is one of them, at most T differs. PC is
left out, as every instruction writes it. -/
structure ControlFrame (s t : State) (cs : List CReg) : Prop where
  creg : ∀ c, c ≠ 0#4 → c ≠ 2#4 → c ∉ cs → t.creg c = s.creg c
  sr   : 2#4 ∉ cs → t.sr = { s.sr with t := t.sr.t }

/-- `t` has the control registers of `s` after a general fault or a software interrupt, which is taken only while SR.BL
is 0 (60_exceptions.md R410, R411, R423). -/
structure Trapped (s t : State) : Prop where
  unblocked : s.sr.bl = false
  sr        : t.sr = s.sr.entered
  sleeping  : t.sleeping = false
  pc        : t.pc = s.vbr + 0x08#32 ∨ t.pc = s.vbr + 0x10#32
  creg      : ∀ c ∈ [1#4, 3#4, 6#4, 7#4], t.creg c = s.creg c

/-- If the outcome is a next state, it differs from `s` in the control registers `cs` at most, or an exception was taken. -/
def Confined (s : State) (cs : List CReg) (o : Outcome) : Prop :=
  ∀ t, o = .next t → ControlFrame s t cs ∨ Trapped s t

variable {s t : State} {cs : List CReg}

/-! ### The outcomes -/

/-- A state that a `Frame` ties to `s`, whose SR differs in T at most where `cs` does not name it. -/
theorem Confined.of_frame_subset {rs : List Reg} {fs : List FReg} {cs' : List CReg} {ms ts : List Nat} (hcs : cs' ⊆ cs)
    (h : Frame s t rs fs cs' ms ts) (hsr : 2#4 ∉ cs → t.sr = { s.sr with t := t.sr.t }) : Confined s cs (.next t) := by
  rintro _ ⟨⟩
  exact .inl ⟨fun c h0 h2 hc => h.ctl c h0 h2 fun h' => hc (hcs h'), hsr⟩

theorem Confined.of_frame {rs : List Reg} {fs : List FReg} {ms ts : List Nat} (h : Frame s t rs fs cs ms ts)
    (hsr : 2#4 ∉ cs → t.sr = { s.sr with t := t.sr.t }) : Confined s cs (.next t) :=
  .of_frame_subset (List.Subset.refl cs) h hsr

theorem Confined.fault (r : Fault) : Confined s cs (.fault r) := fun _ h => nomatch h

theorem Confined.refused (r : Refusal) : Confined s cs (.refused r) := fun _ h => nomatch h

/-- Trap entry, with or without a drawn fault address counted before it. -/
theorem trapEntry_trapped (hb : s.sr.bl = false) (k : Nat) (code : Half) {off : Word}
    (hoff : off = 0x08#32 ∨ off = 0x10#32) (ret : Word) :
    Trapped s (State.trapEntry { s with draws := k } code off ret) where
  unblocked := hb
  sr := rfl
  sleeping := rfl
  pc := hoff.imp (congrArg (s.vbr + ·)) (congrArg (s.vbr + ·))
  creg c hc := by
    simp only [List.mem_cons, List.not_mem_nil, or_false] at hc
    rcases hc with rfl | rfl | rfl | rfl <;> rfl

/-- A drawn fault address changes the draw counter alone. -/
theorem State.faultDrawn_eq (s : State) : s.faultDrawn = { s with draws := s.faultDrawn.draws } := by
  unfold State.faultDrawn; split <;> rfl

theorem State.raise_confined (s : State) (code : Half) : Confined s cs (s.raise code) := by
  intro t h
  obtain ⟨hb, rfl⟩ := s.raise_next h
  rw [s.faultDrawn_eq]
  exact .inr (trapEntry_trapped hb _ code (.inl rfl) _)

theorem State.softInterrupt_confined (s : State) (code : Half) : Confined s cs (s.softInterrupt code) := by
  intro t h
  obtain ⟨hb, rfl⟩ := s.softInterrupt_next h
  exact .inr (trapEntry_trapped hb s.draws code (.inr rfl) _)

theorem Confined.withFpu {o : Outcome} (h : Confined s cs o) (i : Instr) : Confined s cs (s.withFpu i o) := by
  unfold State.withFpu; split
  · exact h
  · exact .fault _

theorem Confined.withFpuStack {o : Outcome} (h : Confined s cs o) (i : Instr) :
    Confined s cs (s.withFpuStack i o) := by
  unfold State.withFpuStack; split
  · exact h
  · exact .fault _

/-- A load is confined if what it does with the bytes read is. -/
theorem State.loadThen_confined (s : State) (a : Word) (n : Nat) {done : List Byte → State → State}
    (h : ∀ bs, Confined s cs (.next (done bs (s.noteLoad a n)))) : Confined s cs (s.loadThen a n done) := by
  rcases s.loadThen_cases a n done with ⟨-, e⟩ | ⟨code, -, e⟩ <;> rw [e]
  · exact h _
  · exact s.raise_confined code

/-- A store is confined if what it does after the bytes are stored is. -/
theorem State.storeThen_confined (s : State) (a : Word) (n : Nat) {w : Nat} (v : BitVec w) {done : State → State}
    (h : Confined s cs (.next (done (s.storeCells (cellsOf a n v))))) : Confined s cs (s.storeThen a n v done) := by
  rcases s.storeThen_cases a n v done with ⟨-, e⟩ | ⟨code, -, e⟩ <;> rw [e]
  · exact h
  · exact s.raise_confined code

/-! ### The operations instructions end in -/

section
variable (s : State)

/-- Write one register and go on. -/
theorem setReg_confined (n : Reg) (v : Word) : Confined s [] (.next (s.setReg n v).advance) :=
  .of_frame ((Frame.setReg s n v).trans (Frame.advance _)) fun _ => rfl

/-- Write T and go on. -/
theorem setT_confined (b : Bool) : Confined s [] (.next (s.setT b).advance) :=
  .of_frame ((Frame.setSr s _).trans (Frame.advance _)) fun _ => rfl

/-- Write one register and T and go on. -/
theorem setReg_setT_confined (n : Reg) (v : Word) (b : Bool) :
    Confined s [] (.next ((s.setReg n v).setT b).advance) :=
  .of_frame (((Frame.setReg s n v).trans (Frame.setSr _ _)).trans (Frame.advance _)) fun _ => rfl

/-- Write one register from an operation that used DLR. -/
theorem setReg_dlrClobber_confined (n : Reg) (v : Word) (d : Option Reg) :
    Confined s [] (.next ((s.setReg n v).dlrClobber d).advance) :=
  .of_frame (((Frame.setReg s n v).trans (Frame.dlrClobber _ _)).trans (Frame.advance _)) (by simp)

theorem State.flagDlr_confined (b : Bool) : Confined s [] (s.flagDlr b) :=
  .of_frame (((Frame.setSr s _).trans (Frame.dlrClobber _ _)).trans (Frame.advance _)) fun _ => rfl

theorem State.product_confined (p : DWord) : Confined s [] (s.product p) :=
  .of_frame (((Frame.setReg s dhr _).trans (Frame.setReg _ dlr _)).trans (Frame.advance _)) fun _ => rfl

theorem State.branchTo_confined (target : Word) : Confined s [] (s.branchTo target) :=
  .of_frame ((Frame.setPc s target).trans (Frame.branchClobber _)) fun _ => rfl

theorem State.callTo_confined (target : Word) : Confined s [1#4] (s.callTo target) :=
  .of_frame (((Frame.setLr s _).trans (Frame.setPc _ target)).trans (Frame.branchClobber _)) fun _ => rfl

theorem State.fresult_confined (n : FReg) (v : DWord) : Confined s [] (s.fresult n v) :=
  .of_frame ((Frame.setFreg s n v).trans (Frame.advance _)) fun _ => rfl

theorem State.fresultDlr_confined (n : FReg) (v : DWord) : Confined s [] (s.fresultDlr n v) :=
  .of_frame (((Frame.setFreg s n v).trans (Frame.dlrClobber _ _)).trans (Frame.advance _)) fun _ => rfl

theorem State.movLoad_confined (a : Word) (k : Nat) (ext : List Byte → Word) (n : Reg) :
    Confined s [] (s.movLoad a k ext n) :=
  s.loadThen_confined a k fun bs =>
    .of_frame ((((Frame.noteLoad s a k).trans (Frame.setReg _ n (ext bs))).trans (Frame.movClobber _ _)).trans
      (Frame.advance _)) (by simp)

theorem State.movStore_confined (a : Word) (k : Nat) (v : Word) : Confined s [] (s.movStore a k v) :=
  s.storeThen_confined a k v
    (.of_frame (((Frame.storeCells s a k v).trans (Frame.movClobber _ _)).trans (Frame.advance _)) (by simp))

theorem State.push_confined (k : Nat) {w : Nat} (v : BitVec w) : Confined s [] (s.push k v) :=
  s.storeThen_confined _ k v
    (.of_frame (((Frame.storeCells s _ k v).trans (Frame.setReg _ sp _)).trans (Frame.advance _)) (by simp))

theorem State.fmovStore_confined (a : Word) (k : Nat) {w : Nat} (v : BitVec w) :
    Confined s [] (s.storeThen a k v State.advance) :=
  s.storeThen_confined a k v (.of_frame ((Frame.storeCells s a k v).trans (Frame.advance _)) (by simp))

theorem State.fmovStoreDlr_confined (a : Word) (k : Nat) {w : Nat} (v : BitVec w) :
    Confined s [] (s.storeThen a k v fun t => (t.dlrClobber none).advance) :=
  s.storeThen_confined a k v
    (.of_frame (((Frame.storeCells s a k v).trans (Frame.dlrClobber _ _)).trans (Frame.advance _)) (by simp))

theorem State.fmovLoad_confined (a : Word) (k : Nat) (n : FReg) (value : List Byte → DWord) :
    Confined s [] (s.loadThen a k fun bs t => (t.setFreg n (value bs)).advance) :=
  s.loadThen_confined a k fun bs =>
    .of_frame (((Frame.noteLoad s a k).trans (Frame.setFreg _ n (value bs))).trans (Frame.advance _)) (by simp)

theorem State.fmovLoadDlr_confined (a : Word) (k : Nat) (n : FReg) (value : List Byte → DWord) :
    Confined s [] (s.loadThen a k fun bs t => ((t.setFreg n (value bs)).dlrClobber none).advance) :=
  s.loadThen_confined a k fun bs =>
    .of_frame ((((Frame.noteLoad s a k).trans (Frame.setFreg _ n (value bs))).trans (Frame.dlrClobber _ _)).trans
      (Frame.advance _)) (by simp)

/-- A pop is confined to what its destination writes. -/
theorem State.pop_confined {cs : List CReg} {rs : List Reg} {fs : List FReg} (k : Nat)
    {dst : List Byte → State → State} (h : ∀ bs u, Frame u (dst bs u) rs fs cs [] [])
    (hsr : ∀ bs u, 2#4 ∉ cs → (dst bs u).sr = u.sr) : Confined s cs (s.pop k dst) :=
  s.loadThen_confined _ k fun bs =>
    .of_frame_subset (by simp)
      ((((Frame.noteLoad s _ k).trans (Frame.setReg _ sp _)).trans (h bs _)).trans (Frame.advance _))
      (fun hc => by simp [hsr bs _ hc])

/-! ### The system instructions -/

/-- A control-register write that does nothing where the number cannot be written. -/
theorem Frame.setCreg_getD (c : CReg) (v : Word) : Frame s ((s.setCreg c v).getD s) [] [] [c] [] [] := by
  cases h : s.setCreg c v with
  | none => exact (Frame.refl s).mono (by simp) (by simp) (by simp) (by simp) (by simp)
  | some u => exact Frame.setCreg h

/-- A write of another control register keeps SR. -/
theorem State.setCreg_getD_sr {c : CReg} (hc : c ≠ 2#4) (v : Word) : ((s.setCreg c v).getD s).sr = s.sr := by
  cases h : s.setCreg c v with
  | none => rfl
  | some u =>
    obtain ⟨-, -, -, -, -, -, -, -, -, -, -, hsr, -⟩ := State.setCreg_rest h
    exact hsr hc

theorem execMovToCtl_confined (c : CReg) (m : Reg) : Confined s [c] (execMovToCtl c m s) := by
  unfold execMovToCtl
  split
  · next u h =>
    obtain ⟨-, -, -, -, -, -, -, -, -, -, -, hsr, -⟩ := State.setCreg_rest h
    refine .of_frame ((Frame.setCreg h).trans (Frame.advance u)) fun hc => ?_
    simp [hsr fun e => hc (by simp [e])]
  · exact .fault _

theorem execMovFromCtl_confined (n : Reg) (c : CReg) : Confined s [] (execMovFromCtl n c s) := by
  unfold execMovFromCtl
  split
  · exact setReg_confined s n _
  · exact .fault _

theorem execPushCtl_confined (c : CReg) : Confined s [] (execPushCtl c s) := by
  unfold execPushCtl
  split
  · exact s.push_confined 4 _
  · exact .fault _

theorem execPopCtl_confined (c : CReg) : Confined s [c] (execPopCtl c s) := by
  unfold execPopCtl
  split
  · exact s.pop_confined 4 (fun bs u => Frame.setCreg_getD u c _) fun bs u hc =>
      u.setCreg_getD_sr (fun e => hc (by simp [e])) _
  · exact .fault _

theorem execPushReg_confined (n : Reg) : Confined s [] (execPushReg n s) := by
  unfold execPushReg
  split
  · exact .fault _
  · exact s.push_confined 4 _

theorem execPopReg_confined (n : Reg) : Confined s [] (execPopReg n s) := by
  unfold execPopReg
  split
  · exact .fault _
  · exact s.pop_confined 4 (fun bs u => Frame.setReg u n _) fun _ _ _ => rfl

/-- A write of S, by CLRS, SETS or NOTS. -/
theorem setS_confined (b : Bool) : Confined s [2#4] (.next (s.setS b).advance) :=
  .of_frame_subset (List.nil_subset _) ((Frame.setSr s _).trans (Frame.advance _)) fun h =>
    absurd List.mem_cons_self h

theorem execRte_confined : Confined s [2#4] (execRte s) :=
  .of_frame_subset (List.nil_subset _)
    (((Frame.setReg s sp s.ssp).trans (Frame.setSr _ _)).trans (Frame.setPc _ _)) fun h =>
    absurd List.mem_cons_self h

theorem execSleep_confined : Confined s [] (execSleep s) := by
  unfold execSleep
  split
  · exact s.raise_confined _
  · rintro _ ⟨⟩
    exact .inl ⟨fun c h0 h2 _ => State.creg_congr h0 h2 rfl rfl rfl rfl rfl rfl rfl rfl, fun _ => rfl⟩

/-- The control registers the function of FSTCD may write: all named ones but PC, SR and GBR (46_fpu.md R374; log
entry 18). -/
abbrev fstcdControls : List CReg := [1#4, 3#4, 4#4, 5#4, 7#4, 11#4, 12#4]

/-- The state of a supplied FSTCD is taken over without its SR and its GBR. -/
theorem execFstcd_confined (n : FReg) : Confined s fstcdControls (execFstcd n s) := by
  refine Confined.withFpu ?_ _
  split
  · rintro _ ⟨⟩
    refine .inl ⟨fun c h0 h2 hc => ?_, fun _ => by simp⟩
    unfold State.creg
    split <;> simp_all
  · exact .refused _

theorem execFldcd_confined (n : FReg) : Confined s [] (execFldcd n s) := by
  refine Confined.withFpu ?_ _
  split
  · exact s.fresultDlr_confined n _
  · exact .refused _

theorem execFstch_confined (n : FReg) : Confined s [] (execFstch n s) := by
  refine Confined.withFpu ?_ _
  rintro _ ⟨⟩
  exact .inl ⟨fun c h0 h2 _ => State.creg_congr h0 h2 rfl rfl rfl rfl rfl rfl rfl rfl, fun _ => rfl⟩

end

/-! ### Every instruction -/

/-- The control registers an instruction may write other than by taking an exception, PC apart, and of SR, T apart. -/
def controlWrites : Instr → List CReg
  | .movToCtl c _ | .popCtl c => [c]
  | .bsrDisp _ | .bsrReg _ => [1#4]
  | .clrs | .sets | .nots | .rte => [2#4]
  | .fstcd _ => fstcdControls
  | _ => []

/-- Every instruction keeps the control registers outside `controlWrites`, unless it takes an exception: each ends in one
of the operations above. -/
theorem exec_confined (i : Instr) (s : State) : Confined s (controlWrites i) (exec i s) := by
  cases i with
  | addReg | subReg | andReg | orReg | xorReg | movReg | addImm | movImm | ldiz8 | ldin8 | ldish | ldish16Zero
  | ldish16Ones | ldiz12 | ldin12 | extuB | extuW | extsB | extsW | notReg | negReg | movnt | movt | rotl | rotr | shll1
  | shll2 | shll4 | shll8 | shll16 | shlr1 | shlr2 | shlr4 | shlr8 | shlr16 | shar1 | shar2 | shar4 | shar8 | shar16
  | sharsx | swapB | swapW | swapLb => exact setReg_confined s _ _
  | adcReg | sbbReg | negcReg | rotcl | rotcr | shll | shlr | shar => exact setReg_setT_confined s _ _ _
  | tstReg | cmpeqReg | cmphiReg | cmpgtReg | cmpeqImmU | cmpeqImmN | cmpgtImm | cmpgeImm | cmppl | cmppz | clrt | sett
  | nott => exact setT_confined s _
  | cmphsDlr | cmpgeDlr => exact s.flagDlr_confined _
  | addDlr | subDlr | andDlr | orDlr | xorDlr | shld | shad | leaB | leaW | leaL | leaQ =>
    exact setReg_dlrClobber_confined s _ _ _
  | muls | mulu => exact s.product_confined _
  | braDisp | braReg | rts | btDisp | bfDisp | btReg | bfReg => exact s.branchTo_confined _
  | bsrDisp | bsrReg => exact s.callTo_confined _
  | nop => exact .of_frame (Frame.advance s) (fun _ => rfl)
  | movbStore | movwStore | movlStore | movbStoreDlr | movwStoreDlr | movlStoreDlr | movlStoreSp | movwStoreSp
  | movlStoreDisp4 | movlStoreDisp8 | movlStoreDisp12 | movlStoreDisp16 | movlStoreDisp20 | movlStoreDisp24
  | movlStoreDisp28 => exact s.movStore_confined _ _ _
  | movubLoad | movbLoad | movwLoad | movlLoad | movuwLoad | movubLoadDlr | movbLoadDlr | movwLoadDlr | movlLoadDlr
  | movuwLoadDlr | movuwLoadSp | movlLoadSp | movwLoadSp | movlLoadDisp4 | movlLoadDisp8 | movlLoadDisp12
  | movlLoadDisp16 | movlLoadDisp20 | movlLoadDisp24 | movlLoadDisp28 => exact s.movLoad_confined _ _ _ _
  | pushReg n => exact execPushReg_confined s n
  | popReg n => exact execPopReg_confined s n
  | pushCtl c => exact execPushCtl_confined s c
  | popCtl c => exact execPopCtl_confined s c
  | movToCtl c m => exact execMovToCtl_confined s c m
  | movFromCtl n c => exact execMovFromCtl_confined s n c
  | movToShadow | movFromShadow => exact .fault _
  | clrs | sets | nots => exact setS_confined s _
  | sleep => exact execSleep_confined s
  | breakpoint => exact s.raise_confined _
  | trap => exact s.softInterrupt_confined _
  | rte => exact execRte_confined s
  | fadd | fsub | fmul | fmovReg | fneg | fabs => exact (s.fresult_confined _ _).withFpu _
  | fcmpeq | fcmpgt => exact (setT_confined s _).withFpu _
  | fldcf | fldci | fldch => exact (s.fresultDlr_confined _ _).withFpu _
  | fstcf | fstci => exact (setReg_confined s _ _).withFpu _
  | fldcd n => exact execFldcd_confined s n
  | fstcd n => exact execFstcd_confined s n
  | fstch n => exact execFstch_confined s n
  | fmovsStore | fmovdStore => exact (s.fmovStore_confined _ _ _).withFpu _
  | fmovsStoreDlr | fmovdStoreDlr => exact (s.fmovStoreDlr_confined _ _ _).withFpu _
  | fmovsLoad | fmovdLoad => exact (s.fmovLoad_confined _ _ _ _).withFpu _
  | fmovsLoadDlr | fmovdLoadDlr => exact (s.fmovLoadDlr_confined _ _ _ _).withFpu _
  | pushFpu => exact (s.push_confined _ _).withFpuStack _
  | popFpu n =>
    exact (s.pop_confined 8 (fun _ u => Frame.setFreg u n _) fun _ _ _ => rfl).withFpuStack _

/-- What `controlWrites` lists, by instruction. -/
theorem mem_controlWrites {i : Instr} {c : CReg} (h : c ∈ controlWrites i) :
    (∃ m, i = .movToCtl c m) ∨ i = .popCtl c ∨ (c = 1#4 ∧ ((∃ d, i = .bsrDisp d) ∨ ∃ n, i = .bsrReg n)) ∨
    (c = 2#4 ∧ (i = .clrs ∨ i = .sets ∨ i = .nots ∨ i = .rte)) ∨ (c ∈ fstcdControls ∧ ∃ n, i = .fstcd n) := by
  unfold controlWrites at h
  split at h <;> simp_all

end Sys2Proof.Machine
end

section
/-! The statements about control registers and SR: O58 and O59 from `exec_confined`, O16 from the packing of SR. -/

namespace Sys2Proof.Machine

/-- A control register the instruction does not name as its destination is outside `controlWrites`, but for the LR of a
BSR. -/
theorem creg_kept_or_linked {i : Instr} {c : CReg} (h2 : c ≠ 2#4) (hf : c ≠ 6#4 → ∀ n, i ≠ .fstcd n)
    (hm : ∀ m, i ≠ .movToCtl c m) (hp : i ≠ .popCtl c) :
    c ∉ controlWrites i ∨ (c = 1#4 ∧ ((∃ d, i = .bsrDisp d) ∨ ∃ n, i = .bsrReg n)) := by
  by_contra hno
  rw [not_or, not_not] at hno
  obtain ⟨hmem, hbsr⟩ := hno
  rcases mem_controlWrites hmem with ⟨m, e⟩ | e | e | ⟨e, -⟩ | ⟨hc, n, e⟩
  · exact hm m e
  · exact hp e
  · exact hbsr e
  · exact h2 e
  · exact hf (by rintro rfl; exact absurd hc (by decide)) n e

/-- Settles O58: `exec_confined` leaves a register outside `controlWrites` as it was, or trap entry has been taken. -/
theorem whichInstructionsWriteControlRegisters : Obligations.WhichInstructionsWriteControlRegisters := by
  intro i s t c h h0 h2 hf hm hp
  rcases exec_confined i s t h with hk | ht
  · rcases creg_kept_or_linked h2 hf hm hp with hc | ⟨rfl, hbsr⟩
    · have kept : t.creg c = s.creg c := hk.creg c h0 h2 hc
      exact ⟨fun _ => kept, fun _ _ _ => kept, .inl kept⟩
    · refine ⟨fun h => absurd h (by decide), fun _ hd hn => ?_, .inr (.inl rfl)⟩
      rcases hbsr with ⟨d, e⟩ | ⟨n, e⟩
      · exact absurd e (hd d)
      · exact absurd e (hn n)
  · refine ⟨fun hc => ht.creg c ?_, fun hc _ _ => ht.creg c ?_, .inr (.inr ⟨ht.unblocked, ht.sleeping, ht.pc⟩)⟩
    · rcases hc with rfl | rfl | rfl <;> decide
    · rw [hc]; decide

/-- IPL, S and the bits without a function are kept by an instruction that does not write SR as a whole, and by trap
entry (10_state.md R34; 60_exceptions.md R410). -/
theorem exec_keeps_sr_fields {i : Instr} {s t : State} (h : exec i s = .next t) (hi : 2#4 ∉ controlWrites i) :
    t.sr.ipl = s.sr.ipl ∧ t.sr.mid = s.sr.mid ∧ t.sr.top = s.sr.top ∧ t.sr.s = s.sr.s := by
  rcases exec_confined i s t h with hk | ht
  · have e := hk.sr hi
    exact ⟨congrArg (·.ipl) e, congrArg (·.mid) e, congrArg (·.top) e, congrArg (·.s) e⟩
  · have e := ht.sr
    exact ⟨congrArg (·.ipl) e, congrArg (·.mid) e, congrArg (·.top) e, congrArg (·.s) e⟩

/-- The instructions that write SR beyond T. -/
theorem writes_sr {i : Instr} (h : 2#4 ∈ controlWrites i) :
    (∃ m, i = .movToCtl 2#4 m) ∨ i = .popCtl 2#4 ∨ i = .rte ∨ i = .clrs ∨ i = .sets ∨ i = .nots := by
  rcases mem_controlWrites h with e | e | ⟨e, -⟩ | ⟨-, e | e | e | e⟩ | ⟨e, -⟩
  · exact .inl e
  · exact .inr (.inl e)
  · exact absurd e (by decide)
  · exact .inr (.inr (.inr (.inl e)))
  · exact .inr (.inr (.inr (.inr (.inl e))))
  · exact .inr (.inr (.inr (.inr (.inr e))))
  · exact .inr (.inr (.inl e))
  · exact absurd e (by decide)

/-- A POP C2 that passes its check writes the word at SP to SR (45_system.md R330). -/
theorem popCtl_sr {s t : State} (h : exec (.popCtl 2#4) s = .next t) (hr : Readable s (s.reg sp) 4) :
    t.sr = StatusReg.ofWord (s.le32 (s.reg sp)) := by
  have e : exec (.popCtl 2#4) s =
      s.pop 4 fun bs t => (t.setCreg 2#4 (leWord 32 bs)).getD t := rfl
  rw [e, State.pop] at h
  rcases s.loadThen_cases (s.reg sp) 4 _ with ⟨-, run⟩ | ⟨code, fails, -⟩
  · rw [run] at h
    obtain rfl := Host.Outcome.next.inj h
    rw [← s.leWord_load4]
    rfl
  · rw [s.readable_iff.1 hr] at fails
    cases fails

/-- Settles O59: outside `controlWrites` SR keeps all but T, BL, RB and MD; the six instructions inside are run. -/
theorem whichInstructionsWriteTheStatusRegister : Obligations.WhichInstructionsWriteTheStatusRegister := by
  intro i s t h
  refine ⟨fun hm hp hr => ?_, ?_, ?_, ?_⟩
  · by_cases hi : 2#4 ∈ controlWrites i
    · rcases writes_sr hi with ⟨m, e⟩ | e | e | rfl | rfl | rfl
      · exact absurd e (hm m)
      · exact absurd e hp
      · exact absurd e hr
      all_goals
        obtain rfl := Host.Outcome.next.inj h
        exact ⟨rfl, rfl, rfl, rfl⟩
    · obtain ⟨hipl, hmid, htop, hs⟩ := exec_keeps_sr_fields h hi
      refine ⟨hipl, hmid, htop, ?_⟩
      rw [if_neg, if_neg, if_neg, hs] <;> rintro rfl <;> exact hi List.mem_cons_self
  · rintro m rfl
    obtain rfl := Host.Outcome.next.inj h
    exact ⟨rfl, rfl⟩
  · rintro rfl hr
    rw [popCtl_sr h hr]
    exact ⟨rfl, rfl⟩
  · rintro rfl
    obtain rfl := Host.Outcome.next.inj h
    exact ⟨rfl, rfl⟩

/-- Settles O16: packing and unpacking SR field by field, and `State.creg` at each of the sixteen numbers. -/
theorem statusWordAndControlRegisterNumbers : Obligations.StatusWordAndControlRegisterNumbers := by
  refine ⟨StatusReg.toWord_ofWord, fun r => ?_, fun s => ?_⟩
  · exact ⟨r.ofWord_toWord, r.toWord_t, r.toWord_s, r.toWord_ipl, r.toWord_mid, r.toWord_bl, r.toWord_rb, r.toWord_md,
      r.toWord_top⟩
  · refine ⟨rfl, rfl, rfl, rfl, rfl, rfl, rfl, rfl, rfl, rfl, fun c hc => ?_⟩
    simp only [List.mem_cons, List.not_mem_nil, or_false] at hc
    rcases hc with rfl | rfl | rfl | rfl | rfl | rfl <;> rfl

end Sys2Proof.Machine
end

section
/-! The reset event and the invariant (O9), and the effective addresses (O30). -/

namespace Sys2Proof.Machine

section
variable (s : State)

/-- The reset event changes nothing the invariant speaks of: memory, the stored addresses and MemMap. -/
@[simp] theorem State.resetFrom_inv : s.resetFrom.inv = s.inv := rfl

/-! The base of an indexed form (10_state.md R25). -/

@[simp] theorem State.base_dlr : s.base 0#4 = s.pc + 2#32 := rfl
@[simp] theorem State.base_dhr : s.base 1#4 = s.gbr := rfl
theorem State.base_of_ne {b : Reg} (h0 : b ≠ 0#4) (h1 : b ≠ 1#4) : s.base b = s.reg b := by
  rw [State.base, if_neg h0, if_neg h1]

end

/-! The index scale (30_encoding.md R103). -/

@[simp] theorem scale_dlr (size : Word) : scale size 0#4 = 1#32 := rfl
theorem scale_of_ne {b : Reg} (h : b ≠ 0#4) (size : Word) : scale size b = size := if_neg h

/-- A machine with no image and nothing stored has the invariant. -/
theorem State.blank_inv : State.blank.inv = true := by decide

/-- Settles O9: the reset state is the reset event on `State.blank`. -/
theorem invariantAtReset : Obligations.InvariantAtReset :=
  ⟨State.blank.resetFrom_inv.trans State.blank_inv, fun s h => s.resetFrom_inv.trans h⟩

/-- Settles O30: each form is its base plus its scaled index. -/
theorem effectiveAddresses : Obligations.EffectiveAddresses := by
  intro s size b d ddd
  refine ⟨rfl, ?_, ?_, fun h0 h1 => ⟨?_, ?_⟩, ?_, ?_, ?_, rfl⟩
  · rw [State.eaIdx, State.base_dlr, scale_dlr, BitVec.mul_one]
  · rw [State.eaIdx, State.base_dhr, scale_of_ne (by decide)]
  · rw [State.eaIdx, s.base_of_ne h0 h1, scale_of_ne h0]
  · rw [State.eaLea, s.base_of_ne h0 h1]
  · rw [State.eaLea, State.base_dlr]
  · rw [State.eaLea, State.base_dhr]
  · rw [State.eaSp, BitVec.ofNat_toNat]

end Sys2Proof.Machine
end

section
/-! SUPPORT. What an instruction does to memory and shows the environment: nothing, or the one access `accessOf` names
(20_memory.md R70), or, where a check failed or an exception was taken, nothing again. -/

namespace Sys2Proof.Machine

/-- What a memory access works on: the map of the addresses, the bytes, the stored addresses and what the environment has
seen. -/
def State.memSide (s : State) : Config × Memory × List Nat × List DevEvent := (s.cfg, s.mem, s.stored, s.devLog)

theorem State.memSide_eq {s t : State} :
    t.memSide = s.memSide ↔ t.cfg = s.cfg ∧ t.mem = s.mem ∧ t.stored = s.stored ∧ t.devLog = s.devLog := by
  simp [State.memSide]

/-- `u` is `s` after the access, or after none where the instruction faulted before it made one. -/
inductive Accessed (s : State) : Option (AccessKind × Word × Nat) → State → Prop where
  | nothing {access : Option (AccessKind × Word × Nat)} : Accessed s access s
  | read {a : Word} {k : Nat} : Accessed s (some (.read, a, k)) (s.noteLoad a k)
  | write {a : Word} {k w : Nat} (v : BitVec w) : Accessed s (some (.write, a, k)) (s.storeCells (cellsOf a k v))

/-- If the outcome is a next state, memory and the environment have seen `access` at most. -/
def Accesses (s : State) (access : Option (AccessKind × Word × Nat)) (o : Outcome) : Prop :=
  ∀ t, o = .next t → ∃ u, Accessed s access u ∧ t.memSide = u.memSide

variable {s : State} {access : Option (AccessKind × Word × Nat)}

/-! ### The outcomes -/

theorem Accesses.of_accessed {u t : State} (hu : Accessed s access u) (h : t.memSide = u.memSide) :
    Accesses s access (.next t) := by
  rintro _ ⟨⟩
  exact ⟨u, hu, h⟩

/-- A next state in which only registers and flags are new. -/
theorem Accesses.kept {t : State} (h : t.memSide = s.memSide) : Accesses s access (.next t) := .of_accessed .nothing h

theorem Accesses.fault (r : Fault) : Accesses s access (.fault r) := fun _ h => nomatch h

theorem Accesses.refused (r : Refusal) : Accesses s access (.refused r) := fun _ h => nomatch h

@[simp] theorem State.memSide_faultDrawn (s : State) : s.faultDrawn.memSide = s.memSide := by simp [State.memSide]

@[simp] theorem State.memSide_clobber (s : State) (n : Reg) (d : Option Reg) : (s.clobber n d).memSide = s.memSide := by
  simp [State.memSide]

@[simp] theorem State.memSide_advance (s : State) : s.advance.memSide = s.memSide := rfl

theorem State.memSide_dlrClobber (s : State) (d : Option Reg) : (s.dlrClobber d).memSide = s.memSide :=
  s.memSide_clobber dlr d

theorem State.memSide_movClobber (s : State) (d : Option Reg) : (s.movClobber d).memSide = s.memSide := by
  simp [State.movClobber]

theorem State.memSide_setCreg {t : State} {c : CReg} {v : Word} (h : s.setCreg c v = some t) :
    t.memSide = s.memSide := by
  obtain ⟨hcfg, -, -, -, hmem, -, -, -, hlog, -, hst, -⟩ := State.setCreg_rest h
  exact State.memSide_eq.2 ⟨hcfg, hmem, hst, hlog⟩

/-- Taking a general fault accesses no memory (60_exceptions.md R413). -/
theorem State.raise_accesses (s : State) (code : Half) : Accesses s access (s.raise code) := by
  intro t h
  obtain ⟨-, rfl⟩ := s.raise_next h
  exact ⟨s, .nothing, s.memSide_faultDrawn⟩

theorem State.softInterrupt_accesses (s : State) (code : Half) : Accesses s access (s.softInterrupt code) := by
  intro t h
  obtain ⟨-, rfl⟩ := s.softInterrupt_next h
  exact ⟨s, .nothing, rfl⟩

theorem Accesses.withFpu {o : Outcome} (h : Accesses s access o) (i : Instr) : Accesses s access (s.withFpu i o) := by
  unfold State.withFpu; split
  · exact h
  · exact .fault _

theorem Accesses.withFpuStack {o : Outcome} (h : Accesses s access o) (i : Instr) :
    Accesses s access (s.withFpuStack i o) := by
  unfold State.withFpuStack; split
  · exact h
  · exact .fault _

section
variable (s : State)

/-! ### Loads and stores -/

/-- A load makes its read, if what it does with the bytes writes registers alone. -/
theorem State.loadThen_accesses (a : Word) (k : Nat) {done : List Byte → State → State}
    (h : ∀ bs u, (done bs u).memSide = u.memSide) : Accesses s (some (.read, a, k)) (s.loadThen a k done) := by
  rcases s.loadThen_cases a k done with ⟨-, e⟩ | ⟨code, -, e⟩ <;> rw [e]
  · exact .of_accessed .read (h _ _)
  · exact s.raise_accesses code

/-- A store makes its write, if what it does after the bytes are stored writes registers alone. -/
theorem State.storeThen_accesses (a : Word) (k : Nat) {w : Nat} (v : BitVec w) {done : State → State}
    (h : ∀ u, (done u).memSide = u.memSide) : Accesses s (some (.write, a, k)) (s.storeThen a k v done) := by
  rcases s.storeThen_cases a k v done with ⟨-, e⟩ | ⟨code, -, e⟩ <;> rw [e]
  · exact .of_accessed (.write v) (h _)
  · exact s.raise_accesses code

theorem State.movLoad_accesses (a : Word) (k : Nat) (ext : List Byte → Word) (n : Reg) :
    Accesses s (some (.read, a, k)) (s.movLoad a k ext n) :=
  s.loadThen_accesses a k fun _ u => (u.setReg n _).memSide_movClobber (some n)

theorem State.movStore_accesses (a : Word) (k : Nat) (v : Word) :
    Accesses s (some (.write, a, k)) (s.movStore a k v) :=
  s.storeThen_accesses a k v fun u => u.memSide_movClobber none

theorem State.push_accesses (k : Nat) {w : Nat} (v : BitVec w) :
    Accesses s (some (.write, s.reg sp - BitVec.ofNat 32 k, k)) (s.push k v) :=
  s.storeThen_accesses _ k v fun _ => rfl

theorem State.pop_accesses (k : Nat) {dst : List Byte → State → State} (h : ∀ bs u, (dst bs u).memSide = u.memSide) :
    Accesses s (some (.read, s.reg sp, k)) (s.pop k dst) :=
  s.loadThen_accesses _ k fun bs u => h bs (u.setReg sp _)

/-! ### The system instructions -/

theorem execPushReg_accesses (n : Reg) : Accesses s (accessOf s (.pushReg n)) (execPushReg n s) := by
  unfold execPushReg
  split
  · exact .fault _
  · exact s.push_accesses 4 _

theorem execPopReg_accesses (n : Reg) : Accesses s (accessOf s (.popReg n)) (execPopReg n s) := by
  unfold execPopReg
  split
  · exact .fault _
  · exact s.pop_accesses 4 fun _ _ => rfl

theorem execPushCtl_accesses (c : CReg) : Accesses s (accessOf s (.pushCtl c)) (execPushCtl c s) := by
  unfold execPushCtl
  split
  · exact s.push_accesses 4 _
  · exact .fault _

theorem State.memSide_setCreg_getD (c : CReg) (v : Word) : ((s.setCreg c v).getD s).memSide = s.memSide := by
  cases h : s.setCreg c v with
  | none => rfl
  | some t => exact State.memSide_setCreg h

theorem execPopCtl_accesses (c : CReg) : Accesses s (accessOf s (.popCtl c)) (execPopCtl c s) := by
  unfold execPopCtl
  split
  · exact s.pop_accesses 4 fun _ u => u.memSide_setCreg_getD c _
  · exact .fault _

theorem execMovToCtl_accesses (c : CReg) (m : Reg) : Accesses s none (execMovToCtl c m s) := by
  unfold execMovToCtl
  split
  · next t h => exact .kept (t.memSide_advance.trans (State.memSide_setCreg h))
  · exact .fault _

theorem execMovFromCtl_accesses (n : Reg) (c : CReg) : Accesses s none (execMovFromCtl n c s) := by
  unfold execMovFromCtl
  split
  · exact .kept rfl
  · exact .fault _

theorem execSleep_accesses : Accesses s none (execSleep s) := by
  unfold execSleep
  split
  · exact s.raise_accesses _
  · exact .kept rfl

theorem execFldcd_accesses (n : FReg) : Accesses s none (execFldcd n s) := by
  refine Accesses.withFpu ?_ _
  split
  · exact .kept (State.memSide_dlrClobber _ _)
  · exact .refused _

end

/-! ### Every instruction -/

/-- Every instruction but FSTCD makes the access `accessOf` names, or none: each ends in one of the operations above. -/
theorem exec_accesses {i : Instr} (hi : ∀ n, i ≠ .fstcd n) (s : State) : Accesses s (accessOf s i) (exec i s) := by
  cases i with
  | addReg | subReg | andReg | orReg | xorReg | movReg | addImm | movImm | ldiz8 | ldin8 | ldish | ldish16Zero
  | ldish16Ones | ldiz12 | ldin12 | extuB | extuW | extsB | extsW | notReg | negReg | movnt | movt | rotl | rotr | shll1
  | shll2 | shll4 | shll8 | shll16 | shlr1 | shlr2 | shlr4 | shlr8 | shlr16 | shar1 | shar2 | shar4 | shar8 | shar16
  | sharsx | swapB | swapW | swapLb | adcReg | sbbReg | negcReg | rotcl | rotcr | shll | shlr | shar | tstReg | cmpeqReg
  | cmphiReg | cmpgtReg | cmpeqImmU | cmpeqImmN | cmpgtImm | cmpgeImm | cmppl | cmppz | clrt | sett | nott | clrs | sets
  | nots | muls | mulu | braDisp | braReg | rts | btDisp | bfDisp | btReg | bfReg | bsrDisp | bsrReg | nop | rte =>
    exact .kept rfl
  | cmphsDlr | cmpgeDlr | addDlr | subDlr | andDlr | orDlr | xorDlr | shld | shad | leaB | leaW | leaL | leaQ =>
    exact .kept (State.memSide_dlrClobber _ _)
  | movbStore | movwStore | movlStore | movbStoreDlr | movwStoreDlr | movlStoreDlr | movlStoreSp | movwStoreSp
  | movlStoreDisp4 | movlStoreDisp8 | movlStoreDisp12 | movlStoreDisp16 | movlStoreDisp20 | movlStoreDisp24
  | movlStoreDisp28 => exact s.movStore_accesses _ _ _
  | movubLoad | movbLoad | movwLoad | movlLoad | movuwLoad | movubLoadDlr | movbLoadDlr | movwLoadDlr | movlLoadDlr
  | movuwLoadDlr | movuwLoadSp | movlLoadSp | movwLoadSp | movlLoadDisp4 | movlLoadDisp8 | movlLoadDisp12
  | movlLoadDisp16 | movlLoadDisp20 | movlLoadDisp24 | movlLoadDisp28 => exact s.movLoad_accesses _ _ _ _
  | pushReg n => exact execPushReg_accesses s n
  | popReg n => exact execPopReg_accesses s n
  | pushCtl c => exact execPushCtl_accesses s c
  | popCtl c => exact execPopCtl_accesses s c
  | movToCtl c m => exact execMovToCtl_accesses s c m
  | movFromCtl n c => exact execMovFromCtl_accesses s n c
  | movToShadow | movFromShadow => exact .fault _
  | sleep => exact execSleep_accesses s
  | breakpoint => exact s.raise_accesses _
  | trap => exact s.softInterrupt_accesses _
  | fadd | fsub | fmul | fmovReg | fneg | fabs | fcmpeq | fcmpgt | fstcf | fstci | fstch =>
    refine Accesses.withFpu ?_ _
    exact .kept rfl
  | fldcf | fldci | fldch =>
    refine Accesses.withFpu ?_ _
    exact .kept (State.memSide_dlrClobber _ _)
  | fldcd n => exact execFldcd_accesses s n
  | fstcd n => exact absurd rfl (hi n)
  | fmovsStore | fmovdStore =>
    refine Accesses.withFpu ?_ _
    exact s.storeThen_accesses _ _ _ fun _ => rfl
  | fmovsStoreDlr | fmovdStoreDlr =>
    refine Accesses.withFpu ?_ _
    exact s.storeThen_accesses _ _ _ fun _ => State.memSide_dlrClobber _ none
  | fmovsLoad | fmovdLoad =>
    refine Accesses.withFpu ?_ _
    exact s.loadThen_accesses _ _ fun _ _ => rfl
  | fmovsLoadDlr | fmovdLoadDlr =>
    refine Accesses.withFpu ?_ _
    exact s.loadThen_accesses _ _ fun _ _ => State.memSide_dlrClobber _ none
  | pushFpu =>
    refine Accesses.withFpuStack ?_ _
    exact s.push_accesses 8 _
  | popFpu =>
    refine Accesses.withFpuStack ?_ _
    exact s.pop_accesses 8 fun _ _ => rfl

end Sys2Proof.Machine
end

section
/-! The statements over every instruction and every step: which bytes an instruction changes (O57), and the invariant of
memory (O8). Both read off `exec_accesses`. -/

namespace Sys2Proof.Machine

/-- Settles O57: the access an instruction makes, by its kind. -/
theorem onlyStoresChangeMemory : Obligations.OnlyStoresChangeMemory := by
  intro i s t hi h
  obtain ⟨u, hu, hside⟩ := exec_accesses hi s t h
  obtain ⟨-, hmem, -, hlog⟩ := State.memSide_eq.1 hside
  generalize accessOf s i = access at hu ⊢
  rw [hmem, hlog]
  cases hu with
  | nothing =>
    rcases access with _ | ⟨_ | _, a, k⟩
    · exact ⟨rfl, rfl⟩
    · rfl
    · exact fun _ _ => rfl
  | read => exact s.noteLoad_mem _ _
  | write v => exact fun b hb => s.storeCells_cellsOf_outside _ _ v hb

/-! ### The invariant -/

/-- The invariant, clause by clause. -/
theorem State.inv_iff {s : State} : s.inv = true ↔
    s.mem.wf = true ∧ addrsWf s.stored = true ∧ (∀ a ∈ s.stored, s.isDevice a = false) ∧
      ∀ c ∈ s.mem.cells, s.isDevice c.1 = false := by
  simp only [State.inv, Bool.and_eq_true, List.all_eq_true, Bool.not_eq_true', and_assoc]

/-- The invariant speaks of MemMap, memory and the stored addresses alone. -/
theorem State.inv_congr {s t : State} (hcfg : t.cfg = s.cfg) (hmem : t.mem = s.mem) (hst : t.stored = s.stored) :
    t.inv = s.inv := by
  simp only [State.inv, State.isDevice, hcfg, hmem, hst]

theorem State.inv_of_memSide {s t : State} (h : t.memSide = s.memSide) : t.inv = s.inv := by
  obtain ⟨hcfg, hmem, hst, -⟩ := State.memSide_eq.1 h
  exact State.inv_congr hcfg hmem hst

theorem State.noteLoad_inv (s : State) (a : Word) (k : Nat) : (s.noteLoad a k).inv = s.inv :=
  State.inv_congr (s.noteLoad_cfg a k) (s.noteLoad_mem a k) (s.noteLoad_stored a k)

theorem State.present_inv (s : State) : s.present.inv = s.inv :=
  State.inv_congr s.present_cfg s.present_mem s.present_stored

/-- The bytes of a store lie in the address space, so it keeps the invariant. -/
theorem State.storeCells_inv {s : State} (h : s.inv = true) (a : Word) (k : Nat) {w : Nat} (v : BitVec w) :
    (s.storeCells (cellsOf a k v)).inv = true := by
  obtain ⟨hm, hs, hd, hv⟩ := State.inv_iff.1 h
  simp only [State.inv_iff, State.storeCells_isDevice]
  refine s.storeCells_keeps _ (fun c hc => accessAddrs_all_lt (a := a) (n := k) ?_) hm hs hd hv
  rw [← cellsOf_addrs a k v]
  exact List.mem_map_of_mem hc

theorem State.takeFstcd_inv {s : State} (h : s.inv = true) (u : State) : (s.takeFstcd u).inv = true := by
  obtain ⟨hm, hs, hd, hv⟩ := State.inv_iff.1 h
  simp only [State.inv_iff, State.takeFstcd_isDevice]
  exact s.takeFstcd_keeps u hm hs hd hv

theorem Accessed.inv {s u : State} {access : Option (AccessKind × Word × Nat)} (hu : Accessed s access u)
    (h : s.inv = true) : u.inv = true := by
  cases hu with
  | nothing => exact h
  | read => rwa [s.noteLoad_inv]
  | write v => exact s.storeCells_inv h _ _ v

theorem Accesses.inv {s t : State} {access : Option (AccessKind × Word × Nat)} {o : Outcome} (ho : Accesses s access o)
    (h : s.inv = true) (ht : o = .next t) : t.inv = true := by
  obtain ⟨u, hu, hside⟩ := ho t ht
  rw [State.inv_of_memSide hside]
  exact hu.inv h

/-- FSTCD answers the state its function gives, taken over (46_fpu.md R374). -/
theorem execFstcd_next {s t : State} {n : FReg} (h : execFstcd n s = .next t) : ∃ u, t = s.takeFstcd u := by
  unfold execFstcd State.withFpu at h
  split at h
  · split at h
    · exact ⟨_, (Host.Outcome.next.inj h).symm⟩
    · cases h
  · cases h

/-- Every instruction keeps the invariant. -/
theorem exec_inv {i : Instr} {s t : State} (h : s.inv = true) (ht : exec i s = .next t) : t.inv = true := by
  by_cases hi : ∃ n, i = .fstcd n
  · obtain ⟨n, rfl⟩ := hi
    obtain ⟨u, rfl⟩ := execFstcd_next ht
    exact State.takeFstcd_inv h u
  · exact (exec_accesses (fun n e => hi ⟨n, e⟩) s).inv h ht

/-- Accepting an interrupt keeps the invariant. -/
theorem State.acceptIrq_inv {s u : State} {src : IrqSource} (h : s.acceptIrq = some (src, u)) : u.inv = s.inv := by
  rcases s.acceptIrq_state h with rfl | rfl <;> rfl

/-- Settles O8: an interrupt, a sleeping core and a failed fetch leave memory alone, and an instruction keeps the
invariant of the state it runs at. -/
theorem invariantKeptByEveryStep : Obligations.InvariantKeptByEveryStep := by
  intro s t h hstep
  have hp : s.present.inv = true := s.present_inv.trans h
  rcases stepWith_next s hstep with ⟨src, u, hirq, rfl⟩ | ⟨-, -, rfl⟩ | ⟨-, -, code, -, hraise⟩ |
    ⟨-, -, w, u, i, hfetch, -, hrun⟩
  · exact (State.acceptIrq_inv hirq).trans hp
  · exact hp
  · exact (s.present.raise_accesses (access := none) code).inv hp hraise
  · obtain ⟨-, -, -, rfl⟩ := s.present.fetch_ok hfetch
    exact exec_inv (by rwa [State.noteLoad_inv]) hrun

end Sys2Proof.Machine
end

section
/-! SUPPORT. The checks of an access in the terms of the claims, little-endian values read back, and what a step does when
no interrupt is accepted and the core is awake. -/

namespace Sys2Proof.Machine

section
variable (s : State)

/-! ### The checks, each failing first (20_memory.md R63 to R65) -/

theorem State.checkAccess_misaligned {a : Word} {k : Nat} (h : ¬ AlignedOk s a k) (al : Region → Bool) (mis den : Half) :
    s.checkAccess a k al mis den = some mis := by
  rcases s.checkAccess_cases a k al mis den with ⟨e, -⟩ | ⟨ok, -⟩
  · exact e
  · exact absurd ok h

theorem State.checkAccess_unmapped {a : Word} {k : Nat} (ha : AlignedOk s a k) (h : ¬ Mapped s a k)
    (al : Region → Bool) (mis den : Half) : s.checkAccess a k al mis den = some 0x8000#16 := by
  rcases s.checkAccess_cases a k al mis den with ⟨-, hno, hodd⟩ | ⟨-, ⟨e, -⟩ | ⟨-, all, -⟩ | ⟨-, all⟩⟩
  · exact absurd ha (not_or.2 ⟨by simp [hno], hodd⟩)
  · exact e
  · exact absurd all h
  · exact absurd (fun i hi => (all i hi).imp fun _ hr => hr.1) h

theorem State.checkAccess_denied {a : Word} {k : Nat} {al : Region → Bool} (ha : AlignedOk s a k) (hm : Mapped s a k)
    (h : ¬ Allows al s a k) (mis den : Half) : s.checkAccess a k al mis den = some den := by
  rcases s.checkAccess_cases a k al mis den with ⟨-, hno, hodd⟩ | ⟨-, ⟨-, i, hi, hr⟩ | ⟨e, -⟩ | ⟨-, all⟩⟩
  · exact absurd ha (not_or.2 ⟨by simp [hno], hodd⟩)
  · obtain ⟨r, hr'⟩ := hm i hi
    rw [hr] at hr'; cases hr'
  · exact e
  · exact absurd all h

theorem State.memRead_of_readable {a : Word} {k : Nat} (h : Readable s a k) :
    s.memRead a k = .ok (s.loadBytes a k, s.noteLoad a k) := by
  rw [State.memRead, s.readable_iff.1 h]

theorem State.memWrite_of_writable {a : Word} {k : Nat} (h : Writable s a k) {b : Nat} (v : BitVec b) :
    s.memWrite a k v = .ok (s.storeCells (cellsOf a k v)) := by
  rw [State.memWrite, s.writable_iff.1 h]

/-- A raised code leaves the general registers, the FPU registers and memory (60_exceptions.md R413). -/
theorem State.raise_keeps {code : Half} {t : State} (h : s.raise code = .next t) :
    (∀ n, t.reg n = s.reg n) ∧ (∀ n, t.freg n = s.freg n) ∧ t.mem = s.mem := by
  obtain ⟨-, rfl⟩ := s.raise_next h
  exact ⟨s.faultDrawn_reg, s.faultDrawn_freg, s.faultDrawn_mem⟩

end

/-! ### Values read back (20_memory.md R61) -/

/-- A read of `k` bytes at `a` in `t` finds the bytes of `v` from bit `p` up. -/
def ReadsPart {w : Nat} (t : State) (a : Word) (k : Nat) (v : BitVec w) (p : Nat) : Prop :=
  ∀ j < k, t.readByte a j = v.extractLsb' (p + 8 * j) 8

section
variable {t : State} {a : Word} {w p : Nat} {v : BitVec w}

theorem ReadsPart.le8 (h : ReadsPart t a 1 v p) : t.le8 a = v.extractLsb' p 8 := h 0 (by decide)

theorem ReadsPart.le16 (h : ReadsPart t a 2 v p) : t.le16 a = v.extractLsb' p 16 := by
  rw [State.le16, h 1 (by decide), h 0 (by decide)]
  exact BitVec.extractLsb'_append_extractLsb'_eq_extractLsb' rfl

theorem ReadsPart.le32 (h : ReadsPart t a 4 v p) : t.le32 a = v.extractLsb' p 32 := by
  rw [State.le32, h 3 (by decide), h 2 (by decide), h 1 (by decide), h 0 (by decide)]
  simp (disch := omega) only [BitVec.extractLsb'_append_extractLsb'_eq_extractLsb']
  rfl

theorem ReadsPart.le64 (h : ReadsPart t a 8 v p) : t.le64 a = v.extractLsb' p 64 := by
  rw [State.le64, h 7 (by decide), h 6 (by decide), h 5 (by decide), h 4 (by decide), h 3 (by decide), h 2 (by decide),
    h 1 (by decide), h 0 (by decide)]
  simp (disch := omega) only [BitVec.extractLsb'_append_extractLsb'_eq_extractLsb']
  rfl

end

/-- Byte `j` from the address of byte `i` is byte `i + j`, modulo 2^32 (20_memory.md R67). -/
theorem byteAddr_add (a : Word) (i j : Nat) : byteAddr (a + BitVec.ofNat 32 i) j = byteAddr a (i + j) := by
  simp only [byteAddr, BitVec.add_assoc, BitVec.ofNat_add]

/-- After a store to plain memory, a read inside it finds the bytes of the value that the store put there
(20_memory.md R61). -/
theorem readsPart_of_memWrite {s t : State} {a : Word} {n w : Nat} (hn : n ≤ 4294967296) {v : BitVec w}
    (hd : ∀ x ∈ accessAddrs a n, s.isDevice x = false) (h : s.memWrite a n v = .ok t) {i k : Nat} (hk : i + k ≤ n) :
    ReadsPart t (a + BitVec.ofNat 32 i) k v (8 * i) := by
  obtain ⟨-, rfl⟩ := s.memWrite_ok h
  intro j hj
  have hij : i + j < n := by omega
  have plain : s.isDevice (byteAddr a (i + j)) = false := hd _ (mem_accessAddrs.2 ⟨i + j, hij, rfl⟩)
  rw [State.readByte, byteAddr_add, State.storeCells_isDevice, plain, if_neg Bool.false_ne_true,
    s.storeCells_cellsOf_inside a hn v hij plain, Nat.mul_add]

/-- The read of the whole store finds the whole value. -/
theorem readsPart_whole_of_memWrite {s t : State} {a : Word} {n w : Nat} (hn : n ≤ 4294967296) {v : BitVec w}
    (hd : ∀ x ∈ accessAddrs a n, s.isDevice x = false) (h : s.memWrite a n v = .ok t) : ReadsPart t a n v 0 := by
  simpa using readsPart_of_memWrite hn hd h (i := 0) (k := n) (by omega)

section
variable (s : State)

/-! ### The boundary (60_exceptions.md R421) -/

/-- The classes IPL admits, as the claims write them. -/
theorem iplAdmits_iff (ipl : BitVec 2) (c : IrqClass) : iplAdmits ipl c = true ↔
    ipl = 3#2 ∨ (ipl = 2#2 ∧ (c = .high ∨ c = .medium)) ∨ (ipl = 1#2 ∧ c = .high) := by
  revert ipl
  cases c <;> decide

theorem State.irqEnabled_iff (src : IrqSource) : s.irqEnabled src = true ↔ Enabled s src := by
  rw [State.irqEnabled, Bool.and_eq_true, Bool.not_eq_true', iplAdmits_iff, Enabled]

theorem State.mem_irqCandidates {src : IrqSource} : src ∈ s.irqCandidates ↔ Candidate s src := by
  have all : src ∈ irqSources := by cases src <;> decide
  simp [State.irqCandidates, Candidate, all, s.irqEnabled_iff]

/-- Without a candidate no interrupt is accepted. -/
theorem State.acceptIrq_eq_none (h : ∀ src, ¬ Candidate s src) : s.acceptIrq = none := by
  have none_enabled : s.irqCandidates = [] :=
    List.eq_nil_iff_forall_not_mem.2 fun src hs => h src (s.mem_irqCandidates.1 hs)
  rw [State.acceptIrq, none_enabled]
  rfl

/-- At a boundary where no interrupt is accepted an awake core runs one instruction. -/
theorem step_of_awake {s : State} (h : Awake s) : step s = runInstruction exec s.present := by
  obtain ⟨hc, hs⟩ := h
  rw [step, stepWith, s.present.acceptIrq_eq_none hc]
  simp [hs]

/-! ### The fetch (20_memory.md R65) -/

theorem State.alignedOk_of_even {a : Word} (h : a.getLsbD 0 = false) : AlignedOk s a 2 := by
  rw [BitVec.getLsbD, Nat.testBit_zero, decide_eq_false_iff_not] at h
  exact .inr (by omega)

theorem State.fetch_of_odd (h : s.pc.getLsbD 0 = true) : s.fetch = .error 0x800B#16 := if_pos h

theorem State.fetch_of_check_some {code : Half} (h : s.pc.getLsbD 0 = false)
    (hc : s.checkAccess s.pc 2 Region.exec 0x800B#16 0x8003#16 = some code) : s.fetch = .error code := by
  rw [State.fetch, h, if_neg Bool.false_ne_true, hc]

theorem State.fetch_of_fetchable (h : Fetchable s) : s.fetch = .ok (s.le16 s.pc, s.noteLoad s.pc 2) := by
  obtain ⟨heven, hexec⟩ := h
  rw [State.fetch, heven, if_neg Bool.false_ne_true, s.checkAccess_eq_none.2 ⟨s.alignedOk_of_even heven, hexec⟩,
    ← s.leWord_load2]

theorem runInstruction_of_fetch_error {run : Instr → State → Outcome} {code : Half} (h : s.fetch = .error code) :
    runInstruction run s = s.raise code := by
  rw [runInstruction, h]

/-- A fetch from plain memory changes nothing. -/
theorem State.noteLoad_of_no_device {a : Word} {k : Nat} (h : ∀ x ∈ accessAddrs a k, s.isDevice x = false) :
    s.noteLoad a k = s := by
  rw [State.noteLoad, if_neg]
  simpa using h

/-- An instruction that is fetched and decoded is run at the state after the fetch. -/
theorem runInstruction_of_fetchable {run : Instr → State → Outcome} {i : Instr} (h : Fetchable s)
    (hm : s.selfModifiedAt = none) (hi : decodeWord (s.le16 s.pc) = .ok i) :
    runInstruction run s = run i (s.noteLoad s.pc 2) := by
  rw [runInstruction, s.fetch_of_fetchable h]
  simp only [hm, hi]

/-! Presenting the requests changes nothing a fetch reads. -/

theorem State.present_isDevice (x : Nat) : s.present.isDevice x = s.isDevice x := by
  simp only [State.isDevice, State.present_cfg]

theorem State.present_readByte (a : Word) (j : Nat) : s.present.readByte a j = s.readByte a j := by
  simp only [State.readByte, State.present_isDevice, State.present_draws, State.present_mem]

theorem State.present_fetchable : Fetchable s.present ↔ Fetchable s := by
  simp only [Fetchable, Allows, State.present_pc, State.present_cfg]

theorem State.present_selfModifiedAt : s.present.selfModifiedAt = s.selfModifiedAt := by
  simp only [State.selfModifiedAt, State.present_cfg, State.present_pc, State.present_stored]

/-- A step that fetches a word which decodes runs its instruction at the state after the fetch (60_exceptions.md R422). -/
theorem step_of_fetches {s : State} {w : Half} {i : Instr} (h : Fetches s w) (hi : decodeWord w = .ok i) :
    step s = exec i (s.present.noteLoad s.pc 2) := by
  obtain ⟨hawake, hfetch, hself, rfl⟩ := h
  rw [step_of_awake hawake, runInstruction_of_fetchable (i := i), s.present_pc]
  · exact s.present_fetchable.2 hfetch
  · rw [s.present_selfModifiedAt, hself]
  · rw [s.present_pc, State.le16, s.present_readByte, s.present_readByte]
    exact hi

/-! ### Taking an exception -/

/-- Trap entry sets bits 28 to 30 of SR (60_exceptions.md R410). -/
theorem StatusReg.toWord_entered (r : StatusReg) : r.entered.toWord = r.toWord ||| 0x70000000#32 := by
  have fields : StatusReg.ofWord (r.toWord ||| 0x70000000#32) = r.entered := by
    simp [StatusReg.ofWord, StatusReg.entered, BitVec.extractLsb'_or, -BitVec.getLsbD_eq_getElem]
  rw [← fields, StatusReg.toWord_ofWord]

/-- Trap entry leaves what the claims say it leaves (60_exceptions.md R410, R413). -/
theorem State.trapEntry_entered (code : Half) (off ret : Word) : Entered s (s.trapEntry code off ret) code off ret :=
  ⟨rfl, rfl, rfl, s.sr.toWord_entered, rfl, rfl, rfl, fun _ => rfl, fun _ => rfl, ⟨rfl, rfl, rfl, rfl⟩, fun _ => rfl,
    ⟨rfl, rfl, rfl⟩, rfl⟩

/-- With FAULT_SPC the faulting address, a general fault saves the pc and draws nothing (60_exceptions.md R412). -/
theorem State.raise_entered {code : Half} (hb : s.sr.bl = false) (hf : s.cfg.faultSpc = .faulting) :
    ∃ t, s.raise code = .next t ∧ Entered s t code 0x08#32 s.pc := by
  have ret : s.faultRet = s.pc := by rw [State.faultRet, hf]
  have drawn : s.faultDrawn = s := by rw [State.faultDrawn, hf]
  refine ⟨s.trapEntry code 0x08#32 s.pc, ?_, s.trapEntry_entered code _ _⟩
  rw [State.raise, hb, if_neg Bool.false_ne_true, ret, drawn]

end

end Sys2Proof.Machine
end

section
/-! The statements about the accesses: the checks of a read, a write and a fetch (O32, O33, O6), little-endian values (O34)
and the step that runs a decoded instruction (O5). -/

namespace Sys2Proof.Machine

/-- Settles O32: each check failing first, the read that passes them all, and what a raise leaves. -/
theorem dataReadChecks : Obligations.DataReadChecks := by
  intro s a k
  refine ⟨fun ha => ?_, fun ha hm => ?_, fun ha hm hr => ?_, fun h => ?_, fun code t h => ?_⟩
  · exact s.memRead_error.2 (s.checkAccess_misaligned ha _ _ _)
  · exact s.memRead_error.2 (s.checkAccess_unmapped ha hm _ _ _)
  · exact s.memRead_error.2 (s.checkAccess_denied ha hm hr _ _)
  · refine ⟨s.loadBytes a k, s.noteLoad a k, s.memRead_of_readable h, s.loadBytes_eq a k, ?_, ?_, ?_, ?_,
      s.noteLoad_sr a k, s.noteLoad_pc a k, Frame.noteLoad s a k⟩
    · rintro rfl; exact s.leWord_load1 a
    · rintro rfl; exact s.leWord_load2 a
    · rintro rfl; exact s.leWord_load4 a
    · rintro rfl; exact s.leWord_load8 a
  · obtain ⟨hregs, hfregs, hmem⟩ := s.raise_keeps h
    exact ⟨hregs, hfregs, fun _ => by rw [hmem]⟩

/-- Settles O33: each check failing first, the write that passes them all, and what a raise leaves. -/
theorem dataWriteChecks : Obligations.DataWriteChecks := by
  intro s a k b v hk
  refine ⟨fun ha => ?_, fun ha hm => ?_, fun ha hm hw => ?_, fun h => ?_, fun code t h x => ?_⟩
  · exact s.memWrite_error.2 (s.checkAccess_misaligned ha _ _ _)
  · exact s.memWrite_error.2 (s.checkAccess_unmapped ha hm _ _ _)
  · exact s.memWrite_error.2 (s.checkAccess_denied ha hm hw _ _)
  · exact ⟨_, s.memWrite_of_writable h v, stored_storeCells s a (by omega) v, s.storeCells_sr _, s.storeCells_pc _,
      Frame.storeCells s a k v⟩
  · obtain ⟨-, -, hmem⟩ := s.raise_keeps h
    rw [hmem]

/-- Settles O34: every read inside the store finds its part of the value, and the part of all its bytes is the value. -/
theorem littleEndianStoreThenLoad : Obligations.LittleEndianStoreThenLoad := by
  intro s t a
  refine ⟨fun v hd h => ?_, fun v hd h => ⟨?_, fun i hi => ?_⟩, fun v hd h => ⟨?_, fun i hi => ?_, fun i hi => ?_⟩,
    fun v hd h => ⟨?_, fun i hi => ?_, fun i hi => ?_, fun i hi => ?_⟩⟩
  · exact (readsPart_whole_of_memWrite (by decide) hd h).le8.trans BitVec.extractLsb'_eq_self
  · exact (readsPart_whole_of_memWrite (by decide) hd h).le16.trans BitVec.extractLsb'_eq_self
  · exact (readsPart_of_memWrite (by decide) hd h (by omega)).le8
  · exact (readsPart_whole_of_memWrite (by decide) hd h).le32.trans BitVec.extractLsb'_eq_self
  · exact (readsPart_of_memWrite (by decide) hd h (by omega)).le16
  · exact (readsPart_of_memWrite (by decide) hd h (by omega)).le8
  · exact (readsPart_whole_of_memWrite (by decide) hd h).le64.trans BitVec.extractLsb'_eq_self
  · exact (readsPart_of_memWrite (by decide) hd h (by omega)).le32
  · exact (readsPart_of_memWrite (by decide) hd h (by omega)).le16
  · exact (readsPart_of_memWrite (by decide) hd h (by omega)).le8

/-- Settles O6: the checks of a fetch are those of an access of two bytes at an even pc; a failing one is raised. -/
theorem fetchChecksAndFetchFaults : Obligations.FetchChecksAndFetchFaults := by
  have raises : ∀ (s : State) (code : Half), Awake s → s.present.fetch = .error code →
      step s = s.present.raise code := fun s code ha hf => by
    rw [step_of_awake ha, runInstruction_of_fetch_error _ hf]
  refine ⟨fun s => ⟨s.fetch_of_odd, fun he hm => ?_, fun he hm hx => ?_, fun h => ⟨_, s.fetch_of_fetchable h⟩⟩,
    fun s code ha hf hb hspc => ?_, raises⟩
  · exact s.fetch_of_check_some he (s.checkAccess_unmapped (s.alignedOk_of_even he) hm _ _ _)
  · exact s.fetch_of_check_some he (s.checkAccess_denied (s.alignedOk_of_even he) hm hx _ _)
  · rw [raises s code ha hf, ← s.present_pc]
    exact s.present.raise_entered (by rwa [s.present_sr]) (by rwa [s.present_cfg])

/-- Settles O5: the state after the fetch is the present one but for what a device shows the environment. -/
theorem stepRunsTheDecodedInstruction : Obligations.StepRunsTheDecodedInstruction := by
  intro s w i h hi
  have run := step_of_fetches h hi
  refine ⟨⟨s.present.noteLoad s.pc 2, run, ?_, ?_, Frame.noteLoad s.present s.pc 2⟩, fun hd => ?_⟩
  · rw [State.noteLoad_pc, s.present_pc]
  · rw [State.noteLoad_sr, s.present_sr]
  · rw [run, State.noteLoad_of_no_device]
    simpa only [State.present_isDevice] using hd

end Sys2Proof.Machine
end

section
/-! SUPPORT. The shapes loads, stores, PUSH, POP and LEA end in, each proved once for every address, size and value:
what a passing check leads to, what a failing one raises, and what is left unchanged (40_load_store.md R120, R144 to
R146). An instruction then only says which shape it is. -/

namespace Sys2Proof.Machine

/-- A word written by its digits is the word of `i` if the decoder of digits reads `i` and the encoder writes them. -/
theorem isWord_nibbles {a b n m : BitVec 4} {i : Instr} (hd : decodeNibbles a b n m = .ok i)
    (he : encode i = nibbles a b n m) : IsWord (nibbles a b n m) i :=
  ⟨(decodeWord_nibbles a b n m).trans hd, he⟩

section
variable {s : State} {a : Word} {k w : Nat} {v : BitVec w} {code : Half}

/-! ### The codes a failing check gives; one byte is never misaligned (20_memory.md R63, R64, R66) -/

theorem memRead_error_code (h : s.memRead a k = .error code) : code ∈ [0x8009#16, 0x8000#16, 0x8001#16] := by
  rcases s.checkAccess_code (s.memRead_error.1 h) with ⟨rfl, -⟩ | rfl | rfl <;> decide

theorem memRead_error_code_byte (h : s.memRead a 1 = .error code) : code ∈ [0x8000#16, 0x8001#16] := by
  rcases s.checkAccess_code (s.memRead_error.1 h) with ⟨-, hk⟩ | rfl | rfl
  · exact absurd rfl hk
  · decide
  · decide

theorem memWrite_error_code (h : s.memWrite a k v = .error code) : code ∈ [0x800A#16, 0x8000#16, 0x8002#16] := by
  rcases s.checkAccess_code (s.memWrite_error.1 h) with ⟨rfl, -⟩ | rfl | rfl <;> decide

theorem memWrite_error_code_byte (h : s.memWrite a 1 v = .error code) : code ∈ [0x8000#16, 0x8002#16] := by
  rcases s.checkAccess_code (s.memWrite_error.1 h) with ⟨-, hk⟩ | rfl | rfl
  · exact absurd rfl hk
  · decide
  · decide

/-! ### What an access leads to -/

theorem loadThen_of_readable (h : Readable s a k) (done : List Byte → State → State) :
    s.loadThen a k done = .next (done (s.loadBytes a k) (s.noteLoad a k)) := by
  rw [State.loadThen, s.memRead_of_readable h]

theorem loadThen_of_error (h : s.memRead a k = .error code) (done : List Byte → State → State) :
    s.loadThen a k done = s.raise code := by
  rw [State.loadThen, h]

theorem storeThen_of_writable (h : Writable s a k) (v : BitVec w) (done : State → State) :
    s.storeThen a k v done = .next (done (s.storeCells (cellsOf a k v))) := by
  rw [State.storeThen, s.memWrite_of_writable h]

theorem storeThen_of_error (h : s.memWrite a k v = .error code) (done : State → State) :
    s.storeThen a k v done = s.raise code := by
  rw [State.storeThen, h]

/-- Later changes that keep memory keep what was stored. -/
theorem Stored.of_mem_eq {t u : State} (h : Stored s t a k v) (hm : u.mem = t.mem) : Stored s u a k v :=
  fun i hi hd => by rw [hm]; exact h i hi hd

/-- Registers and flags that change after a load add to its frame. -/
theorem Frame.after_noteLoad {t : State} {rs : List Reg} {fs : List FReg} {cs : List CReg}
    (h : Frame (s.noteLoad a k) t rs fs cs [] []) : Frame s t rs fs cs [] (accessAddrs a k) := by
  simpa only [List.nil_append, List.append_nil] using (Frame.noteLoad s a k).trans h

/-- Registers and flags that change after a store add to its frame. -/
theorem Frame.after_storeCells {t : State} {rs : List Reg} {fs : List FReg} {cs : List CReg}
    (h : Frame (s.storeCells (cellsOf a k v)) t rs fs cs [] []) :
    Frame s t rs fs cs (accessAddrs a k) (accessAddrs a k) := by
  simpa only [List.nil_append, List.append_nil] using (Frame.storeCells s a k v).trans h

end

section
variable {s : State} {i : Instr} {w : Half} {n : Reg} {a : Word} {k : Nat}

/-! ### Loads (40_load_store.md R120) -/

/-- A MOV.x load, for the codes its size allows. -/
theorem loads_of_movLoad {ext : List Byte → Word} {v : Word} {codes : List Half} (hw : IsWord w i)
    (run : exec i s = s.movLoad a k ext n) (hv : ext (s.loadBytes a k) = v)
    (hcodes : ∀ code, s.memRead a k = .error code → code ∈ codes) : Loads s i w n a k v codes := by
  refine ⟨hw, fun hr => ⟨_, run.trans (loadThen_of_readable hr _), ?_, ?_, ?_, ?_, ?_⟩, fun code h =>
    ⟨hcodes code h, run.trans (loadThen_of_error h _)⟩⟩
  · simp [hv]
  · exact (movClobbered ((s.noteLoad a k).setReg n _) (some n)).from (s.noteLoad_draws_le a k)
  · simp
  · simp
  · exact (((Frame.setReg _ n _).trans (Frame.movClobber _ _)).trans (Frame.advance _)).after_noteLoad

theorem loads_byte {ext : List Byte → Word} {v : Word} (hw : IsWord w i) (run : exec i s = s.movLoad a 1 ext n)
    (hv : ext (s.loadBytes a 1) = v) : Loads s i w n a 1 v [0x8000#16, 0x8001#16] :=
  loads_of_movLoad hw run hv fun _ => memRead_error_code_byte

theorem loads_multibyte {ext : List Byte → Word} {v : Word} (hw : IsWord w i) (run : exec i s = s.movLoad a k ext n)
    (hv : ext (s.loadBytes a k) = v) : Loads s i w n a k v [0x8009#16, 0x8000#16, 0x8001#16] :=
  loads_of_movLoad hw run hv fun _ => memRead_error_code

/-- A MOV.L load, whose value is not extended. -/
theorem loads_long (hw : IsWord w i) (run : exec i s = s.movLoad a 4 (leWord 32) n) :
    Loads s i w n a 4 (s.le32 a) [0x8009#16, 0x8000#16, 0x8001#16] :=
  loads_multibyte hw run (s.leWord_load4 a)

/-! ### Stores (40_load_store.md R120) -/

/-- A MOV.x store, for the codes its size allows. -/
theorem stores_of_movStore {v : Word} {codes : List Half} (hw : IsWord w i) (run : exec i s = s.movStore a k v)
    (hk : k ≤ 4294967296) (hcodes : ∀ code, s.memWrite a k v = .error code → code ∈ codes) :
    Stores s i w a k v codes := by
  refine ⟨hw, fun hr => ⟨_, run.trans (storeThen_of_writable hr v _), ?_, ?_, ?_, ?_, ?_⟩, fun code h =>
    ⟨hcodes code h, run.trans (storeThen_of_error h _)⟩⟩
  · exact (stored_storeCells s a hk v).of_mem_eq (by simp)
  · exact (movClobbered (s.storeCells (cellsOf a k v)) none).from (by simp)
  · simp
  · simp
  · exact ((Frame.movClobber _ none).trans (Frame.advance _)).after_storeCells

theorem stores_byte {v : Word} (hw : IsWord w i) (run : exec i s = s.movStore a 1 v) :
    Stores s i w a 1 v [0x8000#16, 0x8002#16] :=
  stores_of_movStore hw run (by decide) fun _ => memWrite_error_code_byte

theorem stores_half {v : Word} (hw : IsWord w i) (run : exec i s = s.movStore a 2 v) :
    Stores s i w a 2 v [0x800A#16, 0x8000#16, 0x8002#16] :=
  stores_of_movStore hw run (by decide) fun _ => memWrite_error_code

theorem stores_long {v : Word} (hw : IsWord w i) (run : exec i s = s.movStore a 4 v) :
    Stores s i w a 4 v [0x800A#16, 0x8000#16, 0x8002#16] :=
  stores_of_movStore hw run (by decide) fun _ => memWrite_error_code

/-! ### PUSH and POP (40_load_store.md R144, R145) -/

/-- A PUSH of any register file: the slot is below SP, which moves there after the write. -/
theorem pushes_of_push {b : Nat} {v : BitVec b} (hw : IsWord w i) (run : exec i s = s.push k v)
    (hk : k ≤ 4294967296) : Pushes s i w k v := by
  refine ⟨hw, fun hr => ⟨_, run.trans (storeThen_of_writable hr v _), ?_, ?_, ?_, ?_, ?_⟩, fun code h =>
    ⟨memWrite_error_code h, run.trans (storeThen_of_error h _)⟩⟩
  · exact (stored_storeCells s _ hk v).of_mem_eq rfl
  · simp
  · simp
  · simp
  · exact ((Frame.setReg _ sp _).trans (Frame.advance _)).after_storeCells

/-- A POP that passes its check, whatever takes the value. -/
theorem pop_of_readable (h : Readable s (s.reg sp) k) (dst : List Byte → State → State) :
    s.pop k dst = .next (dst (s.loadBytes (s.reg sp) k)
      ((s.noteLoad (s.reg sp) k).setReg sp (s.reg sp + BitVec.ofNat 32 k))).advance :=
  loadThen_of_readable h _

theorem raisesOnRead_of_pop {dst : List Byte → State → State} (run : exec i s = s.pop k dst) :
    RaisesOnRead s i (s.reg sp) k := fun _ h =>
  ⟨memRead_error_code h, run.trans (loadThen_of_error h _)⟩

/-- The frame of a POP: SP and what the destination changes. -/
theorem Frame.popped {t : State} {rs : List Reg} {fs : List FReg} {cs : List CReg} {v : Word}
    (h : Frame ((s.noteLoad (s.reg sp) k).setReg sp v) t rs fs cs [] []) :
    Frame s t.advance (sp :: rs) fs cs [] (accessAddrs (s.reg sp) k) := by
  have moved := ((Frame.setReg (s.noteLoad (s.reg sp) k) sp v).trans h).trans (Frame.advance t)
  simp only [List.nil_append, List.append_nil, List.singleton_append] at moved
  exact moved.after_noteLoad

/-! ### Operations that use DLR by name (10_state.md R27 item 2) -/

theorem writesRegUsingDlr_of_resultDlr {v : Word} (hw : IsWord w i) (run : exec i s = s.resultDlr n v) :
    WritesRegUsingDlr s i w n v := by
  refine ⟨hw, _, run, ?_, ?_, ?_, ?_, ?_⟩
  · simp
  · exact (dlrClobbered (s.setReg n v) (some n)).from (Nat.le_refl _)
  · simp
  · simp
  · exact ((Frame.setReg s n v).trans (Frame.dlrClobber _ _)).trans (Frame.advance _)

end

/-! ### PUSH Rn and POP Rn by the register number (93_implementation_defined.md U8) -/

section
variable {s : State} {n : Reg}

theorem exec_pushReg_of_ne (h : n ≠ sp) : exec (.pushReg n) s = s.push 4 (s.reg n) := if_neg h

theorem exec_popReg_of_ne (h : n ≠ sp) :
    exec (.popReg n) s = s.pop 4 fun bs t => t.setReg n (leWord 32 bs) := if_neg h

theorem exec_pushReg_sp : exec (.pushReg sp) s = .fault (.reservedOperand (nibbles 0x3#4 0x1#4 sp 0x8#4) s.pc) := rfl

theorem exec_popReg_sp : exec (.popReg sp) s = .fault (.reservedOperand (nibbles 0x3#4 0x1#4 sp 0xA#4) s.pc) := rfl

end

end Sys2Proof.Machine
end

section
/-! The statements of 40_load_store.md: loads (O22 to O25), stores (O26 to O29), PUSH Rn and POP Rn (O19) and LEA (O31).
Each row gives its word, its shape, and for a load how the bytes become the value. -/

namespace Sys2Proof.Machine

/-- Settles O22: each load is a `movLoad` at the register's address, by its size and extension. -/
theorem loadsThroughARegister : Obligations.LoadsThroughARegister := fun s _ m =>
  ⟨loads_byte (isWord_nibbles rfl rfl) rfl (s.loadedU_load1 (s.eaReg m)),
    loads_byte (isWord_nibbles rfl rfl) rfl (s.loadedS_load1 (s.eaReg m)),
    loads_multibyte (isWord_nibbles rfl rfl) rfl (s.loadedS_load2 (s.eaReg m)),
    loads_long (isWord_nibbles rfl rfl) rfl,
    loads_multibyte (isWord_nibbles rfl rfl) rfl (s.loadedU_load2 (s.eaReg m))⟩

/-- Settles O23: each load is a `movLoad` at the indexed address of its size. -/
theorem loadsIndexedByDlr : Obligations.LoadsIndexedByDlr := fun s _ m =>
  ⟨loads_byte (isWord_nibbles rfl rfl) rfl (s.loadedU_load1 (s.eaIdx 1#32 m)),
    loads_byte (isWord_nibbles rfl rfl) rfl (s.loadedS_load1 (s.eaIdx 1#32 m)),
    loads_multibyte (isWord_nibbles rfl rfl) rfl (s.loadedS_load2 (s.eaIdx 2#32 m)),
    loads_long (isWord_nibbles rfl rfl) rfl,
    loads_multibyte (isWord_nibbles rfl rfl) rfl (s.loadedU_load2 (s.eaIdx 2#32 m))⟩

/-- Settles O24: each load is a `movLoad` at the old SP plus its scaled displacement. -/
theorem loadsRelativeToSp : Obligations.LoadsRelativeToSp := fun s _ d =>
  ⟨loads_multibyte (isWord_nibbles rfl rfl) rfl (s.loadedU_load2 (s.eaSp 2#32 d)),
    loads_long (isWord_nibbles rfl rfl) rfl,
    loads_multibyte (isWord_nibbles rfl rfl) rfl (s.loadedS_load2 (s.eaSp 2#32 d))⟩

/-- Settles O25: the seven displacements are seven `MOV.L` loads; the digit 8 stands for no displacement. -/
theorem loadsWithASmallDisplacement : Obligations.LoadsWithASmallDisplacement := by
  intro s n m
  refine ⟨?_, ?_, ?_, ?_, ?_, ?_, ?_, .zeroDisplacement, decodeWord_nibbles 0x8#4 0x8#4 n m⟩
  all_goals exact loads_long (isWord_nibbles rfl rfl) rfl

/-- Settles O26: each store is a `movStore` at the register's address, by its size. -/
theorem storesThroughARegister : Obligations.StoresThroughARegister := fun _ _ _ =>
  ⟨stores_byte (isWord_nibbles rfl rfl) rfl, stores_half (isWord_nibbles rfl rfl) rfl,
    stores_long (isWord_nibbles rfl rfl) rfl⟩

/-- Settles O27: each store is a `movStore` at the indexed address of its size. -/
theorem storesIndexedByDlr : Obligations.StoresIndexedByDlr := fun _ _ _ =>
  ⟨stores_byte (isWord_nibbles rfl rfl) rfl, stores_half (isWord_nibbles rfl rfl) rfl,
    stores_long (isWord_nibbles rfl rfl) rfl⟩

/-- Settles O28: each store is a `movStore` at SP plus its scaled displacement. -/
theorem storesRelativeToSp : Obligations.StoresRelativeToSp := fun _ _ _ =>
  ⟨stores_long (isWord_nibbles rfl rfl) rfl, stores_half (isWord_nibbles rfl rfl) rfl⟩

/-- Settles O29: the seven displacements are seven `MOV.L` stores; the digit 0 stands for no displacement. -/
theorem storesWithASmallDisplacement : Obligations.StoresWithASmallDisplacement := by
  intro s n m
  refine ⟨?_, ?_, ?_, ?_, ?_, ?_, ?_, .zeroDisplacement, decodeWord_nibbles 0x8#4 0x0#4 n m⟩
  all_goals exact stores_long (isWord_nibbles rfl rfl) rfl

/-- A POP Rn that passes its check: Rn takes the word at the old SP, and SP, another register, moves up. -/
theorem popReg_of_readable {s : State} {n : Reg} (hn : n ≠ sp) (h : Readable s (s.reg sp) 4) :
    ∃ t, exec (.popReg n) s = .next t ∧ t.reg n = s.le32 (s.reg sp) ∧ t.reg sp = s.reg sp + 4#32 ∧ t.sr = s.sr ∧
      t.pc = s.pc + 2#32 ∧ Frame s t [n, sp] [] [] [] (accessAddrs (s.reg sp) 4) := by
  refine ⟨_, (exec_popReg_of_ne hn).trans (pop_of_readable h _), ?_, ?_, ?_, ?_, ?_⟩
  · simp
  · rw [State.advance_reg, State.setReg_reg_ne _ hn.symm, State.setReg_reg_same]
  · simp
  · simp
  · exact (Frame.setReg _ n _).popped.mono (List.Perm.swap n sp []).subset (List.Subset.refl _) (List.Subset.refl _)
      (List.Subset.refl _) (List.Subset.refl _)

/-- Settles O19: for n other than 15 the PUSH and POP shapes; R15 is reserved in both. -/
theorem pushAndPopOfAGeneralRegister : Obligations.PushAndPopOfAGeneralRegister := by
  intro s n
  have hpush : IsWord (nibbles 0x3#4 0x1#4 n 0x8#4) (.pushReg n) := isWord_nibbles rfl rfl
  have hpop : IsWord (nibbles 0x3#4 0x1#4 n 0xA#4) (.popReg n) := isWord_nibbles rfl rfl
  refine ⟨hpush, hpop, fun hn => ⟨?_, popReg_of_readable hn, ?_⟩, ?_⟩
  · exact pushes_of_push hpush (exec_pushReg_of_ne hn) (by decide)
  · exact raisesOnRead_of_pop (exec_popReg_of_ne hn)
  · rintro rfl
    exact ⟨⟨hpush, exec_pushReg_sp⟩, hpop, exec_popReg_sp⟩

/-- Settles O31: each LEA is a result from a use of DLR, its value the base plus R0 times the size. -/
theorem loadEffectiveAddress : Obligations.LoadEffectiveAddress := by
  intro s n m
  refine ⟨?_, ?_, ?_, ?_⟩
  all_goals exact writesRegUsingDlr_of_resultDlr (isWord_nibbles rfl rfl) rfl

end Sys2Proof.Machine
end

section
/-! SUPPORT. The shapes the instructions of 41_arith_logic.md end in, each proved once for every register and value: a
result, a result with T, a T alone, and a 64-bit product. -/

namespace Sys2Proof.Machine

variable {s : State} {i : Instr} {w : Half} {n : Reg}

/-- A result is what `State.result` is given, in whatever form a statement writes it. -/
theorem writesReg_of_result {v v' : Word} (hw : IsWord w i) (run : exec i s = s.result n v) (hv : v = v') :
    WritesReg s i w n v' := by
  subst hv
  refine ⟨hw, _, run, ?_, rfl, rfl, ?_⟩
  · rw [State.advance_reg, State.setReg_reg_same]
  · exact (Frame.setReg s n v).trans (Frame.advance _)

theorem writesRegT_of_resultT {r : Word × Bool} (hw : IsWord w i) (run : exec i s = s.resultT n r) :
    WritesRegT s i w n r.1 r.2 := by
  refine ⟨hw, _, run, ?_, rfl, rfl, ?_⟩
  · rw [State.advance_reg, State.setT_reg, State.setReg_reg_same]
  · exact ((Frame.setReg s n r.1).trans (Frame.setSr _ _)).trans (Frame.advance _)

/-- T is what `State.flag` is given, in whatever form a statement writes it. -/
theorem writesT_of_flag {b b' : Bool} (hw : IsWord w i) (run : exec i s = s.flag b) (hb : b = b') :
    WritesT s i w b' := by
  subst hb
  exact ⟨hw, _, run, rfl, rfl, (Frame.setSr s _).trans (Frame.advance _)⟩

/-- A compare that uses DLR writes T and leaves R0 undefined (41_arith_logic.md R190). -/
theorem flagDlr_next (s : State) (b : Bool) : ∃ t, s.flagDlr b = .next t ∧ t.sr = { s.sr with t := b } ∧
    DlrClobbered s t none ∧ t.pc = s.pc + 2#32 ∧ Frame s t [dlr] [] [] [] [] := by
  refine ⟨_, rfl, ?_, (dlrClobbered (s.setT b) none).from (Nat.le_refl _), ?_, ?_⟩
  · rw [State.advance_sr, State.dlrClobber_sr, State.setT_sr, StatusReg.withT]
  · rw [State.advance_pc, State.dlrClobber_pc, State.setT_pc]
  · exact ((Frame.setSr s _).trans (Frame.dlrClobber _ none)).trans (Frame.advance _)

/-- A product leaves its 64 bits in DHR and DLR, whatever registers its factors came from (41_arith_logic.md R200). -/
theorem product_next (s : State) (p : DWord) : ∃ t, s.product p = .next t ∧ t.reg dhr ++ t.reg dlr = p ∧
    t.sr = s.sr ∧ t.pc = s.pc + 2#32 ∧ Frame s t [dlr, dhr] [] [] [] [] := by
  refine ⟨_, rfl, ?_, rfl, rfl, ?_⟩
  · rw [State.advance_reg, State.advance_reg, State.setReg_reg_same, State.setReg_reg_ne _ (by decide),
      State.setReg_reg_same, BitVec.extractLsb'_append_extractLsb'_eq_extractLsb' (by decide)]
    exact BitVec.extractLsb'_eq_self
  · exact (((Frame.setReg s dhr _).trans (Frame.setReg _ dlr _)).trans (Frame.advance _)).mono
      (List.Perm.swap dlr dhr []).subset (List.Subset.refl _) (List.Subset.refl _) (List.Subset.refl _)
      (List.Subset.refl _)

/-- An instruction with an 8-bit immediate is the word of its digits (30_encoding.md R102). -/
theorem isWord_nibbles_imm8 {a n : BitVec 4} {f : Reg → BitVec 8 → Instr} {j : BitVec 8}
    (hd : decodeNibbles a n (high4 j) (low4 j) = .ok (f n (high4 j ++ low4 j)))
    (he : encode (f n j) = nibbles a n (high4 j) (low4 j)) : IsWord (nibbles a n (high4 j) (low4 j)) (f n j) :=
  isWord_nibbles (by rw [hd, high4_low4]) he

end Sys2Proof.Machine
end

section
/-! SUPPORT. The values of 41_arith_logic.md as integers: carry and borrow, extended immediates, relations, products. -/

namespace Sys2Proof.Machine

/-! ### Carry and borrow (R174, R175) -/

/-- The 33-bit sum loses nothing: two words and a carry stay below 2^33. -/
theorem addCarry_toNat (x y : Word) (c : Bool) :
    (addCarry x y c).1.toNat + 4294967296 * (addCarry x y c).2.toNat = x.toNat + y.toNat + c.toNat := by
  have hx := x.isLt
  have hy := y.isLt
  have hc := c.toNat_le
  have sum : (x.setWidth 33 + y.setWidth 33 + (BitVec.ofBool c).setWidth 33).toNat = x.toNat + y.toNat + c.toNat := by
    simp only [BitVec.toNat_add, BitVec.toNat_setWidth, BitVec.toNat_ofBool]
    omega
  have top : (addCarry x y c).2.toNat = (x.toNat + y.toNat + c.toNat) / 4294967296 % 2 := by
    rw [← sum]
    simp [addCarry, BitVec.getLsbD, Nat.toNat_testBit]
  have low : (addCarry x y c).1.toNat = (x.toNat + y.toNat + c.toNat) % 4294967296 := by
    rw [← sum]
    exact BitVec.toNat_setWidth 32 _
  omega

theorem toNat_bnot (c : Bool) : (!c).toNat = 1 - c.toNat := by cases c <;> rfl

/-- The complement of `y` is `2^32 - 1 - y`, so the carry of the complement sum is the absence of a borrow. -/
theorem subBorrow_toNat (x y : Word) (b : Bool) :
    (subBorrow x y b).1.toNat + y.toNat + b.toNat = x.toNat + 4294967296 * (subBorrow x y b).2.toNat := by
  have sum := addCarry_toNat x (~~~y) (!b)
  have hy := y.isLt
  have hb := b.toNat_le
  rw [BitVec.toNat_not, toNat_bnot] at sum
  simp only [subBorrow, toNat_bnot]
  have hc := (addCarry x (~~~y) (!b)).2.toNat_le
  omega

/-! ### Extended immediates (30_encoding.md R102) -/

theorem zext_toNat {k : Nat} (j : BitVec k) (hk : k ≤ 32) : (zext j).toNat = j.toNat :=
  BitVec.toNat_setWidth_of_le hk

/-- A zero-extended 4-bit immediate is not negative. -/
theorem zext_toInt (j : BitVec 4) : (zext j).toInt = j.toNat := by
  have hj := j.isLt
  rw [BitVec.toInt_eq_toNat_of_lt] <;> rw [zext_toNat j (by decide)]
  omega

/-- A one-extended 4-bit immediate lies in -16..-1. -/
theorem oext_toInt (j : BitVec 4) : (oext j).toInt = (j.toNat : Int) - 16 := by
  revert j; decide

/-! ### Relations, the destination register on the left (R171) -/

theorem noCommonBit_eq (x y : Word) : noCommonBit x y = decide (x &&& y = 0#32) := rfl
theorem ugt_eq (x y : Word) : ugt x y = decide (y.toNat < x.toNat) := rfl
theorem uge_eq (x y : Word) : uge x y = decide (y.toNat ≤ x.toNat) := rfl
theorem sgt_eq (x y : Word) : sgt x y = decide (y.toInt < x.toInt) := rfl
theorem sge_eq (x y : Word) : sge x y = decide (y.toInt ≤ x.toInt) := rfl

/-- Equality with a zero-extended immediate is equality of naturals (R184). -/
theorem beq_zext (x : Word) (j : BitVec 4) : (x == zext j) = decide (x.toNat = j.toNat) := by
  rw [← zext_toNat j (by decide), Bool.eq_iff_iff, beq_iff_eq, decide_eq_true_iff, BitVec.toNat_inj]

/-- Equality with a one-extended immediate is equality of integers (R185). -/
theorem beq_oext (x : Word) (j : BitVec 4) : (x == oext j) = decide (x.toInt = (j.toNat : Int) - 16) := by
  rw [← oext_toInt, Bool.eq_iff_iff, beq_iff_eq, decide_eq_true_iff, BitVec.toInt_inj]

/-! ### Products (R200, R201) -/

/-- Two unsigned 32-bit factors have a product below 2^64. -/
theorem mul_setWidth_toNat (x y : Word) : (x.setWidth 64 * y.setWidth 64).toNat = x.toNat * y.toNat := by
  have bound : x.toNat * y.toNat < 2 ^ (32 + 32) := (Nat.mul_lt_mul'' x.isLt y.isLt).trans_eq (Nat.pow_add 2 32 32).symm
  rw [BitVec.toNat_mul, BitVec.toNat_setWidth_of_le (by decide), BitVec.toNat_setWidth_of_le (by decide),
    Nat.mod_eq_of_lt bound]

/-- Two signed 32-bit factors have a product of magnitude at most 2^62. -/
theorem mul_signExtend_toInt (x y : Word) : (x.signExtend 64 * y.signExtend 64).toInt = x.toInt * y.toInt := by
  have bound : (x.toInt * y.toInt).natAbs ≤ 2 ^ 31 * 2 ^ 31 := by
    rw [Int.natAbs_mul]
    refine Nat.mul_le_mul ?_ ?_
    · have := x.le_toInt; have := x.toInt_lt; omega
    · have := y.le_toInt; have := y.toInt_lt; omega
  rw [BitVec.toInt_mul, BitVec.toInt_signExtend_of_le (by decide), BitVec.toInt_signExtend_of_le (by decide)]
  exact Int.bmod_eq_of_le (by omega) (by omega)

end Sys2Proof.Machine
end

section
/-! The statements of 41_arith_logic.md: carry and borrow (O36), the multiplies (O39), register arithmetic and logic (O35),
the compares (O37, O38) and the three-operand forms (O40). Each row gives its word, its shape and its value. -/

namespace Sys2Proof.Machine

/-- Settles O36: the sums and differences of `addCarry` and `subBorrow`; NEGC subtracts from 0. -/
theorem carryAndBorrow : Obligations.CarryAndBorrow := by
  intro s n m
  refine ⟨⟨_, _, writesRegT_of_resultT (isWord_nibbles rfl rfl) rfl, ?adc⟩,
    ⟨_, _, writesRegT_of_resultT (isWord_nibbles rfl rfl) rfl, ?sbb⟩,
    ⟨_, _, writesRegT_of_resultT (r := subBorrow 0#32 (s.reg n) s.sr.t) (isWord_nibbles rfl rfl) rfl, ?negc⟩⟩
  case adc => exact addCarry_toNat (s.reg n) (s.reg m) s.sr.t
  case sbb => exact subBorrow_toNat (s.reg n) (s.reg m) s.sr.t
  case negc => exact (subBorrow_toNat 0#32 (s.reg n) s.sr.t).trans (Nat.zero_add _)

/-- Settles O39: `State.product` puts the product in R1:R0, and 64 bits hold it exactly. -/
theorem multiplies : Obligations.Multiplies := by
  intro s n m
  refine ⟨⟨isWord_nibbles rfl rfl, ?signed⟩, isWord_nibbles rfl rfl, ?unsigned⟩
  case signed =>
    obtain ⟨t, run, value, rest⟩ := product_next s ((s.reg m).signExtend 64 * (s.reg n).signExtend 64)
    exact ⟨t, run, (congrArg BitVec.toInt value).trans (mul_signExtend_toInt _ _), rest⟩
  case unsigned =>
    obtain ⟨t, run, value, rest⟩ := product_next s ((s.reg m).setWidth 64 * (s.reg n).setWidth 64)
    exact ⟨t, run, (congrArg BitVec.toNat value).trans (mul_setWidth_toNat _ _), rest⟩

/-- Settles O35: each is a `State.result`; `sext` is the word of the immediate's signed value. -/
theorem registerArithmeticAndLogic : Obligations.RegisterArithmeticAndLogic := by
  intro s n m i
  refine ⟨?_, ?_, ?_, ?_, ?_, ?_, ?addImm, ?movImm⟩
  case addImm => exact writesReg_of_result (isWord_nibbles_imm8 (f := .addImm) rfl rfl) rfl rfl
  case movImm => exact writesReg_of_result (isWord_nibbles_imm8 (f := .movImm) rfl rfl) rfl rfl
  all_goals exact writesReg_of_result (isWord_nibbles rfl rfl) rfl rfl

/-- Settles O37: each is a `State.flag` of its relation. -/
theorem compares : Obligations.Compares := by
  intro s n m j
  refine ⟨?_, ?_, ?_, ?_, ?_, ?_, ?_, ?_, ?_, ?_⟩
  · exact writesT_of_flag (isWord_nibbles rfl rfl) rfl (noCommonBit_eq _ _)
  · exact writesT_of_flag (isWord_nibbles rfl rfl) rfl (beq_eq_decide _ _)
  · exact writesT_of_flag (isWord_nibbles rfl rfl) rfl (ugt_eq _ _)
  · exact writesT_of_flag (isWord_nibbles rfl rfl) rfl (sgt_eq _ _)
  · exact writesT_of_flag (isWord_nibbles rfl rfl) rfl (beq_zext _ j)
  · exact writesT_of_flag (isWord_nibbles rfl rfl) rfl (beq_oext _ j)
  · exact writesT_of_flag (isWord_nibbles rfl rfl) rfl (by rw [sgt_eq, zext_toInt])
  · exact writesT_of_flag (isWord_nibbles rfl rfl) rfl (by rw [sge_eq, zext_toInt])
  · exact writesT_of_flag (isWord_nibbles rfl rfl) rfl (sgt_eq _ 0#32)
  · exact writesT_of_flag (isWord_nibbles rfl rfl) rfl (sge_eq _ 0#32)

/-- Settles O38: both are `State.flagDlr` of their relation. -/
theorem comparesWithDlr : Obligations.ComparesWithDlr := by
  intro s n
  rw [← uge_eq, ← sge_eq]
  exact ⟨⟨isWord_nibbles rfl rfl, flagDlr_next s _⟩, isWord_nibbles rfl rfl, flagDlr_next s _⟩

/-- Settles O40: each is a `State.resultDlr`. -/
theorem threeOperandForms : Obligations.ThreeOperandForms := by
  intro s n m
  refine ⟨?_, ?_, ?_, ?_, ?_⟩
  all_goals exact writesRegUsingDlr_of_resultDlr (isWord_nibbles rfl rfl) rfl

end Sys2Proof.Machine
end

section
/-! SUPPORT. The shapes the instructions of 42_branch.md end in, each proved once for every target: a jump, a conditional
jump and a call. All three are `State.branchTo`, so one lemma has the clobber of R220, for branches taken and not. -/

namespace Sys2Proof.Machine

variable {s : State} {i : Instr} {w : Half} {target : Word}

/-- The displacement counts words from the following instruction (42_branch.md R222). -/
theorem State.branchTarget_eq (s : State) (d : BitVec 8) :
    s.branchTarget d = s.pc + 2#32 + BitVec.ofInt 32 (2 * d.toInt) := by
  have scaled : sext d * 2#32 = BitVec.ofInt 32 (2 * d.toInt) := by
    rw [BitVec.ofInt_mul, BitVec.mul_comm]
    rfl
  rw [State.branchTarget, scaled, State.pcNext]

/-- A clobber seen from an earlier state. -/
theorem BranchClobbered.from {s t u : State} (h : BranchClobbered t u) (hd : s.draws ≤ t.draws) :
    BranchClobbered s u := by
  obtain ⟨j, k, l, hjk, hjl, hkl, ⟨hj, dlrDrawn⟩, ⟨hk, dhrDrawn⟩, hl, bitDrawn⟩ := h
  exact ⟨j, k, l, hjk, hjl, hkl, ⟨hd.trans hj, dlrDrawn⟩, ⟨hd.trans hk, dhrDrawn⟩, hd.trans hl, bitDrawn⟩

/-- Going on at a target keeps LR and every bit of SR but T (42_branch.md R220). -/
theorem branchTo_next (s : State) (target : Word) : ∃ t, s.branchTo target = .next t ∧ t.pc = target ∧ t.lr = s.lr ∧
    BranchClobbered s t ∧ t.sr = { s.sr with t := t.sr.t } ∧ Frame s t [dlr, dhr] [] [] [] [] := by
  refine ⟨_, rfl, ?_, ?_, (branchClobbered (s.setPc target)).from (Nat.le_refl _), ?_, ?_⟩
  · rw [State.branchClobber_pc, State.setPc_pc]
  · rw [State.branchClobber_lr, State.setPc_lr]
  · rw [State.branchClobber_sr, State.setPc_sr, StatusReg.withT]
  · exact (Frame.setPc s target).trans (Frame.branchClobber _)

/-- A jump keeps LR. -/
theorem branches_of_branchTo (hw : IsWord w i) (run : exec i s = s.branchTo target) : Branches s i w target s.lr := by
  obtain ⟨t, next, pc, lr, clobbered, sr, frame⟩ := branchTo_next s target
  exact ⟨hw, t, run.trans next, pc, lr, clobbered, sr, frame.mono (List.Subset.refl _) (List.Subset.refl _)
    (List.nil_subset _) (List.Subset.refl _) (List.Subset.refl _)⟩

/-- A call is a jump after LR took the following instruction's address (42_branch.md R224). -/
theorem branches_of_callTo (hw : IsWord w i) (run : exec i s = s.callTo target) :
    Branches s i w target (s.pc + 2#32) := by
  obtain ⟨t, next, pc, lr, clobbered, sr, frame⟩ := branchTo_next (s.setLr s.pcNext) target
  exact ⟨hw, t, run.trans next, pc, lr, clobbered.from (Nat.le_refl _), sr, (Frame.setLr s _).trans frame⟩

/-- A conditional jump, its condition in whatever form a statement writes it (42_branch.md R225, R226). -/
theorem branches_of_branchIf {taken : Bool} {p : Prop} [Decidable p] (hw : IsWord w i)
    (run : exec i s = s.branchIf taken target) (hp : taken = true ↔ p) :
    Branches s i w (if p then target else s.pc + 2#32) s.lr := by
  simp only [← hp]
  exact branches_of_branchTo hw run

end Sys2Proof.Machine
end

section
/-! The statements of 42_branch.md: the displacement branches (O41), the register branches and RTS (O42). Each row gives
its word and its shape; BF is taken on the negation of T. -/

namespace Sys2Proof.Machine

/-- Settles O41: a jump, a call and two conditional jumps to `State.branchTarget`. -/
theorem displacementBranches : Obligations.DisplacementBranches := by
  intro s d
  simp only [← State.branchTarget_eq]
  refine ⟨?bra, ?bsr, ?bt, ?bf⟩
  case bra => exact branches_of_branchTo (isWord_nibbles_imm8 (f := fun _ => .braDisp) rfl rfl) rfl
  case bsr => exact branches_of_callTo (isWord_nibbles_imm8 (f := fun _ => .bsrDisp) rfl rfl) rfl
  case bt => exact branches_of_branchIf (isWord_nibbles_imm8 (f := fun _ => .btDisp) rfl rfl) rfl Iff.rfl
  case bf =>
    exact branches_of_branchIf (isWord_nibbles_imm8 (f := fun _ => .bfDisp) rfl rfl) rfl
      (Bool.not_eq_true' s.sr.t).to_iff

/-- Settles O42: the same shapes at the address in Rn, read before the clobber, and RTS a jump to LR. -/
theorem registerBranchesAndReturn : Obligations.RegisterBranchesAndReturn := by
  intro s n
  refine ⟨?bra, ?bsr, ?bt, ?bf, ?rts⟩
  case bra => exact branches_of_branchTo (isWord_nibbles rfl rfl) rfl
  case bsr => exact branches_of_callTo (isWord_nibbles rfl rfl) rfl
  case bt => exact branches_of_branchIf (isWord_nibbles rfl rfl) rfl Iff.rfl
  case bf => exact branches_of_branchIf (isWord_nibbles rfl rfl) rfl (Bool.not_eq_true' s.sr.t).to_iff
  case rts => exact branches_of_branchTo (isWord_nibbles rfl rfl) rfl

end Sys2Proof.Machine
end

section
/-! SUPPORT. The words and values of 43_dlr_immediate.md: a 12-bit immediate is three digits; a word shifted left with a
field below it is its low bits with the field appended, and a one-extended field is ones with the field appended. -/

namespace Sys2Proof.Machine

/-- An instruction with a 12-bit immediate is the word of its digits (30_encoding.md R102). -/
theorem isWord_nibbles_imm12 {a : BitVec 4} {f : BitVec 12 → Instr} {k : BitVec 12}
    (hd : decodeNibbles a (top4 k) (mid4 k) (low4 k) = .ok (f (top4 k ++ mid4 k ++ low4 k)))
    (he : encode (f k) = nibbles a (top4 k) (mid4 k) (low4 k)) :
    IsWord (nibbles a (top4 k) (mid4 k) (low4 k)) (f k) :=
  isWord_nibbles (by rw [hd, top4_mid4_low4]) he

/-- A field put below a word shifted left by its width: the word keeps its low `a` bits and loses those above
(43_dlr_immediate.md R243). -/
theorem shiftLeft_or_setWidth {a k : Nat} (x : BitVec (a + k)) (j : BitVec k) :
    (x <<< k) ||| j.setWidth (a + k) = x.extractLsb' 0 a ++ j := by
  apply BitVec.eq_of_getLsbD_eq
  intro i hi
  rw [BitVec.getLsbD_or, BitVec.getLsbD_shiftLeft, BitVec.getLsbD_setWidth, BitVec.getLsbD_append,
    BitVec.getLsbD_extractLsb', Nat.zero_add]
  by_cases inField : i < k
  · simp [inField, hi]
  · have above : i - k < a := by omega
    simp [inField, hi, above, BitVec.getLsbD_of_ge j i (Nat.le_of_not_lt inField)]

/-- The bits above a one-extended field are ones (00_scope.md R11). -/
theorem allOnes_shiftLeft_or_setWidth {a k : Nat} (j : BitVec k) :
    (BitVec.allOnes (a + k) <<< k) ||| j.setWidth (a + k) = BitVec.allOnes a ++ j := by
  have ones : (BitVec.allOnes (a + k)).extractLsb' 0 a = BitVec.allOnes a := by
    apply BitVec.eq_of_getLsbD_eq
    intro i hi
    simp [hi, Nat.lt_add_right k hi]
  rw [shiftLeft_or_setWidth, ones]

end Sys2Proof.Machine
end

section
/-! The statement of 43_dlr_immediate.md (O43): each row gives its word, the shape `State.result` at DLR and its value. -/

namespace Sys2Proof.Machine

/-- Settles O43: `State.loadDlr` is a `State.result` in DLR; an 8-bit, 16-bit or 12-bit field leaves 24, 16 or 20 bits
above it. -/
theorem dlrImmediates : Obligations.DlrImmediates := by
  intro s j k
  refine ⟨?ldiz8, ?ldin8, ?ldish, ?ldish16Zero, ?ldish16Ones, ?ldiz12, ?ldin12⟩
  case ldiz8 =>
    exact writesReg_of_result (isWord_nibbles_imm8 (f := fun _ => .ldiz8) rfl rfl) rfl (BitVec.ofNat_toNat 32 j).symm
  case ldin8 =>
    exact writesReg_of_result (isWord_nibbles_imm8 (f := fun _ => .ldin8) rfl rfl) rfl
      (allOnes_shiftLeft_or_setWidth (a := 24) j)
  case ldish =>
    exact writesReg_of_result (isWord_nibbles_imm8 (f := fun _ => .ldish) rfl rfl) rfl
      (shiftLeft_or_setWidth (a := 24) _ j)
  case ldish16Zero =>
    exact writesReg_of_result (isWord_nibbles rfl rfl) rfl
      (BitVec.or_zero.symm.trans (shiftLeft_or_setWidth (a := 16) _ 0x0000#16))
  case ldish16Ones =>
    exact writesReg_of_result (isWord_nibbles rfl rfl) rfl (shiftLeft_or_setWidth (a := 16) _ 0xFFFF#16)
  case ldiz12 =>
    exact writesReg_of_result (isWord_nibbles_imm12 (f := .ldiz12) rfl rfl) rfl (BitVec.ofNat_toNat 32 k).symm
  case ldin12 =>
    exact writesReg_of_result (isWord_nibbles_imm12 (f := .ldin12) rfl rfl) rfl
      (allOnes_shiftLeft_or_setWidth (a := 20) k)

end Sys2Proof.Machine
end

section
/-! SUPPORT. The shapes the instructions of 44_unary_shift_flag.md end in beside `State.result`, each proved once for
every register and value: a shift through T, a barrel shift and a write of SR alone. -/

namespace Sys2Proof.Machine

variable {s : State} {i : Instr} {w : Half} {n : Reg}

/-- A shift through T is a result with T, its value in whatever form a statement writes it. -/
theorem writesRegT_of_resultT_eq {v v' : Word} {b : Bool} (hw : IsWord w i) (run : exec i s = s.resultT n (v, b))
    (hv : v = v') : WritesRegT s i w n v' b :=
  hv ▸ writesRegT_of_resultT hw run

/-- A barrel shift is a result that used DLR, of DLR's value before the clobber (44_unary_shift_flag.md R298). -/
theorem writesRegUsingDlr_of_resultDlr_eq {v v' : Word} (hw : IsWord w i) (run : exec i s = s.resultDlr n v)
    (hv : v = v') : WritesRegUsingDlr s i w n v' :=
  hv ▸ writesRegUsingDlr_of_resultDlr hw run

/-- Going on after a write of SR; T and S are written through it (10_state.md R35, R36). -/
theorem writesSr_of_setSr {r : StatusReg} (hw : IsWord w i) (run : exec i s = .next (s.setSr r).advance) :
    WritesSr s i w r :=
  ⟨hw, _, run, rfl, rfl, (Frame.setSr s r).trans (Frame.advance _)⟩

/-- Going on with nothing written keeps SR. -/
theorem writesSr_of_advance (hw : IsWord w i) (run : exec i s = .next s.advance) : WritesSr s i w s.sr :=
  ⟨hw, _, run, rfl, rfl, Frame.advance s⟩

end Sys2Proof.Machine
end

section
/-! SUPPORT. The values of 44_unary_shift_flag.md: low parts as numbers, shifts as products and quotients, shifts by
which a field enters at one end, and the amount of a barrel shift. -/

namespace Sys2Proof.Machine

/-! ### Extension of a low part (R267 to R270) -/

/-- A zero-extended low part is the remainder by its power of two. -/
theorem zext_extractLsb'_zero (x : Word) (k : Nat) : zext (x.extractLsb' 0 k) = BitVec.ofNat 32 (x.toNat % 2 ^ k) := by
  rw [zext, ← BitVec.ofNat_toNat, BitVec.extractLsb'_toNat, Nat.shiftRight_zero]

theorem sext_extractLsb'_zero (x : Word) {k : Nat} (hk : k ≤ 32) :
    sext (x.extractLsb' 0 k) = BitVec.ofInt 32 (x.setWidth k).toInt := by
  rw [sext, BitVec.signExtend, BitVec.setWidth_eq_extractLsb' hk]

/-! ### Negation, T as a word, rotation by one (R272, R274 to R276, R301) -/

theorem not_add_one_eq_zero_sub (x : Word) : ~~~x + 1#32 = 0#32 - x := by
  rw [BitVec.zero_sub, BitVec.neg_eq_not_add]

theorem bitWord_eq_ite (b : Bool) : bitWord b = if b = true then 1#32 else 0#32 := by cases b <;> rfl

theorem bitWord_not_eq_ite (b : Bool) : bitWord (!b) = if b = true then 0#32 else 1#32 := by cases b <;> rfl

theorem shifts_eq_rotateLeft_one (x : Word) : (x <<< 1) ||| (x >>> 31) = x.rotateLeft 1 :=
  (BitVec.rotateLeft_def (r := 1)).symm

theorem shifts_eq_rotateRight_one (x : Word) : (x >>> 1) ||| (x <<< 31) = x.rotateRight 1 :=
  (BitVec.rotateRight_def (r := 1)).symm

/-! ### Shifts as arithmetic (R282 to R296) -/

theorem shiftLeft_eq_ofNat_mul (x : Word) (k : Nat) : x <<< k = BitVec.ofNat 32 (x.toNat * 2 ^ k) := by
  rw [← Nat.shiftLeft_eq]
  rfl

theorem ushiftRight_eq_ofNat_div (x : Word) (k : Nat) : x >>> k = BitVec.ofNat 32 (x.toNat / 2 ^ k) := by
  rw [← Nat.shiftRight_eq_div_pow, ← BitVec.toNat_ushiftRight, BitVec.ofNat_toNat, BitVec.setWidth_eq]

/-- The integer division rounds down, as the arithmetic shift does. -/
theorem sshiftRight_eq_ofInt_div (x : Word) (k : Nat) : x.sshiftRight k = BitVec.ofInt 32 (x.toInt / 2 ^ k) := by
  rw [BitVec.sshiftRight, Int.shiftRight_eq_div_pow]
  push_cast
  rfl

/-- The top bit is the sign (R297). -/
theorem getLsbD_31_iff_toInt_neg (x : Word) : x.getLsbD 31 = true ↔ x.toInt < 0 := by
  have sign : x.getLsbD 31 = decide (x.toInt < 0) := x.msb_eq_getLsbD_last.symm.trans BitVec.msb_eq_toInt
  rw [sign, decide_eq_true_iff]

/-! ### A field entering at the top (R278, R280, R281) -/

/-- A word shifted right with a field put above it: the word keeps its high `a` bits and loses those below
(44_unary_shift_flag.md R278). -/
theorem ushiftRight_or_shiftLeft_setWidth {k a : Nat} (x : BitVec (k + a)) (j : BitVec k) :
    (x >>> k) ||| (j.setWidth (k + a) <<< a) = j ++ x.extractLsb' k a := by
  apply BitVec.eq_of_getLsbD_eq
  intro i hi
  rw [BitVec.getLsbD_or, BitVec.getLsbD_ushiftRight, BitVec.getLsbD_shiftLeft, BitVec.getLsbD_setWidth,
    BitVec.getLsbD_append, BitVec.getLsbD_extractLsb']
  by_cases low : i < a
  · simp [low]
  · have gone : x.getLsbD (k + i) = false := BitVec.getLsbD_of_ge x _ (by omega)
    have inWord : i - a < k + a := by omega
    simp [low, hi, gone, inWord]

/-- An arithmetic shift by one is the sign bit put above the remaining bits (44_unary_shift_flag.md R281). -/
theorem sshiftRight_one_eq_append (x : Word) :
    x.sshiftRight 1 = BitVec.ofBool (x.getLsbD 31) ++ x.extractLsb' 1 31 := by
  apply BitVec.eq_of_getLsbD_eq
  intro i hi
  rw [BitVec.getLsbD_sshiftRight, BitVec.getLsbD_append, BitVec.getLsbD_extractLsb']
  by_cases low : i < 31
  · have inWord : 1 + i < 32 := by omega
    simp [low, hi, inWord]
  · obtain rfl : i = 31 := by omega
    simp [BitVec.msb_eq_getLsbD_last]

/-! ### The amount of a barrel shift (R298) -/

/-- The shift goes right exactly when the signed low byte is negative. -/
theorem shiftsRight_iff (x0 : Word) : shiftsRight x0 = true ↔ (x0.setWidth 8).toInt < 0 := by
  have sign : (x0.setWidth 8).msb = shiftsRight x0 := BitVec.msb_setWidth'' x0
  rw [← sign, BitVec.msb_eq_toInt, decide_eq_true_iff]

theorem shiftDistance_of_nonneg {x0 : Word} (h : 0 ≤ (x0.setWidth 8).toInt) :
    shiftDistance x0 = ((x0.setWidth 8).toInt % 32).toNat := by
  simp only [shiftDistance]
  omega

theorem shiftDistance_of_neg {x0 : Word} (h : (x0.setWidth 8).toInt < 0) :
    shiftDistance x0 = (-(x0.setWidth 8).toInt % 32).toNat := by
  simp only [shiftDistance]
  omega

/-- What both barrel shifts do, their right shift being any function of the distance: left by the amount, or right by
the negated amount, modulo 32. -/
theorem barrel_eq_ite (x x0 : Word) (right : Nat → Word) :
    (if shiftsRight x0 then right (shiftDistance x0) else x <<< shiftDistance x0) =
      if 0 ≤ (x0.setWidth 8).toInt then BitVec.ofNat 32 (x.toNat * 2 ^ ((x0.setWidth 8).toInt % 32).toNat)
      else right (-(x0.setWidth 8).toInt % 32).toNat := by
  by_cases h : 0 ≤ (x0.setWidth 8).toInt
  · rw [if_pos h, if_neg (mt (shiftsRight_iff x0).mp (Int.not_lt.mpr h)), shiftDistance_of_nonneg h,
      shiftLeft_eq_ofNat_mul]
  · rw [if_neg h, if_pos ((shiftsRight_iff x0).mpr (Int.not_le.mp h)), shiftDistance_of_neg (Int.not_le.mp h)]

/-- SHLD (R299). -/
theorem barrelLogical_eq (x x0 : Word) : barrelLogical x x0 =
    if 0 ≤ (x0.setWidth 8).toInt then BitVec.ofNat 32 (x.toNat * 2 ^ ((x0.setWidth 8).toInt % 32).toNat)
    else BitVec.ofNat 32 (x.toNat / 2 ^ (-(x0.setWidth 8).toInt % 32).toNat) := by
  rw [barrelLogical, barrel_eq_ite, ushiftRight_eq_ofNat_div]

/-- SHAD (R300). -/
theorem barrelArithmetic_eq (x x0 : Word) : barrelArithmetic x x0 =
    if 0 ≤ (x0.setWidth 8).toInt then BitVec.ofNat 32 (x.toNat * 2 ^ ((x0.setWidth 8).toInt % 32).toNat)
    else BitVec.ofInt 32 (x.toInt / 2 ^ (-(x0.setWidth 8).toInt % 32).toNat) := by
  rw [barrelArithmetic, barrel_eq_ite, sshiftRight_eq_ofInt_div]

end Sys2Proof.Machine
end

section
/-! The statements of 44_unary_shift_flag.md: barrel shifts (O50), flags and NOP (O44), extensions and swaps (O45),
one-register operations (O46), shifts through T (O47) and fixed shifts (O48, O49). Each row gives its word, its shape
and its value. -/

namespace Sys2Proof.Machine

/-- Settles O50: both are `State.barrel`; the two differ in their right shift alone. -/
theorem barrelShifts : Obligations.BarrelShifts := by
  intro s n
  refine ⟨?shld, ?shad⟩
  case shld => exact writesRegUsingDlr_of_resultDlr_eq (isWord_nibbles rfl rfl) rfl (barrelLogical_eq _ _)
  case shad => exact writesRegUsingDlr_of_resultDlr_eq (isWord_nibbles rfl rfl) rfl (barrelArithmetic_eq _ _)

/-- Settles O44: six writes of one bit of SR; NOP writes nothing. -/
theorem flagOperationsAndNop : Obligations.FlagOperationsAndNop := by
  intro s
  refine ⟨?_, ?_, ?_, ?_, ?_, ?_, ?nop⟩
  case nop => exact writesSr_of_advance (isWord_nibbles rfl rfl) rfl
  all_goals exact writesSr_of_setSr (isWord_nibbles rfl rfl) rfl

/-- Settles O45: the extensions are those of the low 8 and 16 bits; a swap's value is the statement's own. -/
theorem extensionsAndSwaps : Obligations.ExtensionsAndSwaps := by
  intro s n
  refine ⟨?extuB, ?extuW, ?extsB, ?extsW, ?_, ?_, ?_⟩
  case extuB => exact writesReg_of_result (isWord_nibbles rfl rfl) rfl (zext_extractLsb'_zero _ 8)
  case extuW => exact writesReg_of_result (isWord_nibbles rfl rfl) rfl (zext_extractLsb'_zero _ 16)
  case extsB => exact writesReg_of_result (isWord_nibbles rfl rfl) rfl (sext_extractLsb'_zero _ (by decide))
  case extsW => exact writesReg_of_result (isWord_nibbles rfl rfl) rfl (sext_extractLsb'_zero _ (by decide))
  all_goals exact writesReg_of_result (isWord_nibbles rfl rfl) rfl rfl

/-- Settles O46: a rotation by one is the two shifts by 1 and 31 joined. -/
theorem oneRegisterOperations : Obligations.OneRegisterOperations := by
  intro s n
  refine ⟨?not, ?neg, ?movnt, ?rotl, ?rotr, ?movt⟩
  case not => exact writesReg_of_result (isWord_nibbles rfl rfl) rfl rfl
  case neg => exact writesReg_of_result (isWord_nibbles rfl rfl) rfl (not_add_one_eq_zero_sub _)
  case movnt => exact writesReg_of_result (isWord_nibbles rfl rfl) rfl (bitWord_not_eq_ite s.sr.t)
  case rotl => exact writesReg_of_result (isWord_nibbles rfl rfl) rfl (shifts_eq_rotateLeft_one _)
  case rotr => exact writesReg_of_result (isWord_nibbles rfl rfl) rfl (shifts_eq_rotateRight_one _)
  case movt => exact writesReg_of_result (isWord_nibbles rfl rfl) rfl (bitWord_eq_ite s.sr.t)

/-- Settles O47: a bit enters below 31 bits or above them; SHLL and SHLR bring in a 0, which the shift alone does. -/
theorem shiftsThroughT : Obligations.ShiftsThroughT := by
  intro s n
  refine ⟨?rotcl, ?rotcr, ?shll, ?shlr, ?shar⟩
  case rotcl =>
    exact writesRegT_of_resultT_eq (isWord_nibbles rfl rfl) rfl
      (shiftLeft_or_setWidth (a := 31) _ (BitVec.ofBool s.sr.t))
  case rotcr =>
    exact writesRegT_of_resultT_eq (isWord_nibbles rfl rfl) rfl
      (ushiftRight_or_shiftLeft_setWidth (a := 31) _ (BitVec.ofBool s.sr.t))
  case shll =>
    exact writesRegT_of_resultT_eq (isWord_nibbles rfl rfl) rfl
      (BitVec.or_zero.symm.trans (shiftLeft_or_setWidth (a := 31) _ 0#1))
  case shlr =>
    exact writesRegT_of_resultT_eq (isWord_nibbles rfl rfl) rfl
      (BitVec.or_zero.symm.trans (ushiftRight_or_shiftLeft_setWidth (a := 31) _ 0#1))
  case shar => exact writesRegT_of_resultT_eq (isWord_nibbles rfl rfl) rfl (sshiftRight_one_eq_append _)

/-- Settles O48: products and quotients by the powers of two. -/
theorem fixedLogicalShifts : Obligations.FixedLogicalShifts := by
  intro s n
  refine ⟨?shll1, ?shll2, ?shll4, ?shll8, ?shll16, ?shlr1, ?shlr2, ?shlr4, ?shlr8, ?shlr16⟩
  case shll1 => exact writesReg_of_result (isWord_nibbles rfl rfl) rfl (shiftLeft_eq_ofNat_mul _ 1)
  case shll2 => exact writesReg_of_result (isWord_nibbles rfl rfl) rfl (shiftLeft_eq_ofNat_mul _ 2)
  case shll4 => exact writesReg_of_result (isWord_nibbles rfl rfl) rfl (shiftLeft_eq_ofNat_mul _ 4)
  case shll8 => exact writesReg_of_result (isWord_nibbles rfl rfl) rfl (shiftLeft_eq_ofNat_mul _ 8)
  case shll16 => exact writesReg_of_result (isWord_nibbles rfl rfl) rfl (shiftLeft_eq_ofNat_mul _ 16)
  case shlr1 => exact writesReg_of_result (isWord_nibbles rfl rfl) rfl (ushiftRight_eq_ofNat_div _ 1)
  case shlr2 => exact writesReg_of_result (isWord_nibbles rfl rfl) rfl (ushiftRight_eq_ofNat_div _ 2)
  case shlr4 => exact writesReg_of_result (isWord_nibbles rfl rfl) rfl (ushiftRight_eq_ofNat_div _ 4)
  case shlr8 => exact writesReg_of_result (isWord_nibbles rfl rfl) rfl (ushiftRight_eq_ofNat_div _ 8)
  case shlr16 => exact writesReg_of_result (isWord_nibbles rfl rfl) rfl (ushiftRight_eq_ofNat_div _ 16)

/-- Settles O49: floor quotients by the powers of two; SHARSX tests the sign bit. -/
theorem fixedArithmeticShifts : Obligations.FixedArithmeticShifts := by
  intro s n
  simp only [← getLsbD_31_iff_toInt_neg]
  refine ⟨?shar1, ?shar2, ?shar4, ?shar8, ?shar16, ?sharsx⟩
  case shar1 => exact writesReg_of_result (isWord_nibbles rfl rfl) rfl (sshiftRight_eq_ofInt_div _ 1)
  case shar2 => exact writesReg_of_result (isWord_nibbles rfl rfl) rfl (sshiftRight_eq_ofInt_div _ 2)
  case shar4 => exact writesReg_of_result (isWord_nibbles rfl rfl) rfl (sshiftRight_eq_ofInt_div _ 4)
  case shar8 => exact writesReg_of_result (isWord_nibbles rfl rfl) rfl (sshiftRight_eq_ofInt_div _ 8)
  case shar16 => exact writesReg_of_result (isWord_nibbles rfl rfl) rfl (sshiftRight_eq_ofInt_div _ 16)
  case sharsx => exact writesReg_of_result (isWord_nibbles rfl rfl) rfl rfl

end Sys2Proof.Machine
end

section
/-! SUPPORT. Control registers by number (45_system.md R324): which numbers name one, which of them can be written, and
what a move, a PUSH and a POP answer for each. -/

namespace Sys2Proof

/-! ### The numbers -/

theorem CReg.named_iff (n : CReg) : CReg.named n = true ↔ n ∉ [8#4, 9#4, 10#4, 13#4, 14#4, 15#4] := by
  revert n; decide

theorem CReg.writable_iff (n : CReg) : CReg.writable n = true ↔ n ∉ [0#4, 8#4, 9#4, 10#4, 13#4, 14#4, 15#4] := by
  revert n; decide

theorem CReg.not_named_of_mem {n : CReg} (h : n ∈ [8#4, 9#4, 10#4, 13#4, 14#4, 15#4]) : CReg.named n = false :=
  Bool.eq_false_iff.2 fun hn => (CReg.named_iff n).1 hn h

theorem CReg.not_writable_of_mem {n : CReg} (h : n ∈ [0#4, 8#4, 9#4, 10#4, 13#4, 14#4, 15#4]) :
    CReg.writable n = false :=
  Bool.eq_false_iff.2 fun hn => (CReg.writable_iff n).1 hn h

theorem CReg.ne_zero_of_writable {n : CReg} (h : CReg.writable n = true) : n ≠ 0#4 := by
  rintro rfl
  exact absurd h (by decide)

namespace Machine

/-! ### Reading and writing by number -/

section
variable (s : State)

/-- The numbers that can be read are those with a name. -/
theorem State.creg_isSome (n : CReg) : (s.creg n).isSome = CReg.named n := by
  unfold State.creg
  split
  case h_11 => revert n; decide
  all_goals rfl

/-- The numbers that can be written are those with a name but C0. -/
theorem State.setCreg_isSome (n : CReg) (v : Word) : (s.setCreg n v).isSome = CReg.writable n := by
  rcases s.setCreg_cases n v with ⟨rfl, e⟩ | ⟨rfl, e⟩ | ⟨rfl, e⟩ | ⟨rfl, e⟩ | ⟨rfl, e⟩ | ⟨rfl, e⟩ | ⟨rfl, e⟩ | ⟨rfl, e⟩ |
    ⟨rfl, e⟩ | ⟨hn, e⟩
  case inr.inr.inr.inr.inr.inr.inr.inr.inr => rw [e, CReg.not_writable_of_mem hn]; rfl
  all_goals rw [e]; rfl

theorem State.creg_of_named {n : CReg} (h : CReg.named n = true) : ∃ v, s.creg n = some v :=
  Option.isSome_iff_exists.1 ((s.creg_isSome n).trans h)

theorem State.creg_of_not_named {n : CReg} (h : CReg.named n = false) : s.creg n = none :=
  Option.isNone_iff_eq_none.1 (Option.isSome_eq_false_iff.1 ((s.creg_isSome n).trans h))

theorem State.setCreg_of_writable {n : CReg} (h : CReg.writable n = true) (v : Word) : ∃ t, s.setCreg n v = some t :=
  Option.isSome_iff_exists.1 ((s.setCreg_isSome n v).trans h)

theorem State.setCreg_of_not_writable {n : CReg} (h : CReg.writable n = false) (v : Word) : s.setCreg n v = none :=
  Option.isNone_iff_eq_none.1 (Option.isSome_eq_false_iff.1 ((s.setCreg_isSome n v).trans h))

/-- Going on to the following instruction changes no control register but PC. -/
theorem State.creg_advance {c : CReg} (h0 : c ≠ 0#4) : s.advance.creg c = s.creg c := by
  by_cases h2 : c = 2#4
  · subst h2; rfl
  · exact (Frame.advance s).ctl c h0 h2 List.not_mem_nil

end

section
variable {s t : State} {i : Instr} {w : Half} {n m : BitVec 4} {v : Word}

/-- A control-register write reads back whole, SR included (10_state.md R39). -/
theorem setCreg_creg_self (h : s.setCreg n v = some t) : t.creg n = some v := by
  by_cases h2 : n = 2#4
  · subst h2
    cases h
    exact congrArg some (StatusReg.toWord_ofWord v)
  · exact State.setCreg_creg_same h2 h

/-- What a control-register write leaves once the instruction has gone on: the register, SR but for C2, and PC. -/
theorem setCreg_advance (hn : CReg.writable n = true) (h : s.setCreg n v = some t) :
    t.advance.creg n = some v ∧ (n ≠ 2#4 → t.advance.sr = s.sr) ∧ t.advance.pc = s.pc + 2#32 := by
  obtain ⟨-, -, -, hpc, -, -, -, -, -, -, -, hsr, -⟩ := State.setCreg_rest h
  refine ⟨?_, hsr, ?_⟩
  · rw [t.creg_advance (CReg.ne_zero_of_writable hn), setCreg_creg_self h]
  · rw [State.advance_pc, hpc]

/-! ### The instructions -/

/-- An instruction that answers `reserved` stops with its word and its address. -/
theorem stopsReserved_of_reserved (hw : IsWord w i) (run : exec i s = s.reserved i) : StopsReserved s i w := by
  refine ⟨hw, ?_⟩
  obtain ⟨-, henc⟩ := hw
  rw [run, State.reserved, henc]

theorem exec_movToCtl_of_setCreg (h : s.setCreg n (s.reg m) = some t) : exec (.movToCtl n m) s = .next t.advance := by
  change execMovToCtl n m s = _
  rw [execMovToCtl, h]

theorem exec_movToCtl_of_not_writable (h : CReg.writable n = false) :
    exec (.movToCtl n m) s = s.reserved (.movToCtl n m) := by
  change execMovToCtl n m s = _
  rw [execMovToCtl, s.setCreg_of_not_writable h]

theorem exec_movFromCtl_of_creg (h : s.creg m = some v) : exec (.movFromCtl n m) s = s.result n v := by
  change execMovFromCtl n m s = _
  rw [execMovFromCtl, h, State.result]

theorem exec_movFromCtl_of_not_named (h : CReg.named m = false) :
    exec (.movFromCtl n m) s = s.reserved (.movFromCtl n m) := by
  change execMovFromCtl n m s = _
  rw [execMovFromCtl, s.creg_of_not_named h]

theorem exec_pushCtl_of_creg (h : s.creg n = some v) : exec (.pushCtl n) s = s.push 4 v := by
  change execPushCtl n s = _
  rw [execPushCtl, h]

theorem exec_pushCtl_of_not_named (h : CReg.named n = false) : exec (.pushCtl n) s = s.reserved (.pushCtl n) := by
  change execPushCtl n s = _
  rw [execPushCtl, s.creg_of_not_named h]

theorem exec_popCtl_of_writable (h : CReg.writable n = true) :
    exec (.popCtl n) s = s.pop 4 fun bs t => (t.setCreg n (leWord 32 bs)).getD t := if_pos h

theorem exec_popCtl_of_not_writable (h : CReg.writable n = false) : exec (.popCtl n) s = s.reserved (.popCtl n) :=
  if_neg (Bool.eq_false_iff.1 h)

/-- A POP Cn that passes its check: Cn takes the word at the old SP, and SP moves up. -/
theorem popCtl_of_readable (hn : CReg.writable n = true) (h : Readable s (s.reg sp) 4) :
    ∃ t, exec (.popCtl n) s = .next t ∧ t.creg n = some (s.le32 (s.reg sp)) ∧ t.reg sp = s.reg sp + 4#32 ∧
      (n ≠ 2#4 → t.sr = s.sr) ∧ t.pc = s.pc + 2#32 ∧ Frame s t [sp] [] [n] [] (accessAddrs (s.reg sp) 4) := by
  obtain ⟨u, hu⟩ := ((s.noteLoad (s.reg sp) 4).setReg sp (s.reg sp + 4#32)).setCreg_of_writable hn (s.le32 (s.reg sp))
  have run : exec (.popCtl n) s = .next u.advance := by
    rw [exec_popCtl_of_writable hn, pop_of_readable h, State.leWord_load4, hu, Option.getD_some]
  obtain ⟨hcreg, hsr, hpc⟩ := setCreg_advance hn hu
  refine ⟨u.advance, run, hcreg, ?_, fun h2 => ?_, ?_, (Frame.setCreg hu).popped⟩
  · rw [State.advance_reg, (Frame.setCreg hu).regs sp List.not_mem_nil, State.setReg_reg_same]
  · rw [hsr h2, State.setReg_sr, State.noteLoad_sr]
  · rw [hpc, State.setReg_pc, State.noteLoad_pc]

end

end Machine

end Sys2Proof
end

section
/-! SUPPORT. The traps, the return and SLEEP of 45_system.md R320 to R323, and the interrupt that wakes a sleeping core
(60_exceptions.md R421, R422). -/

namespace Sys2Proof.Machine

/-! ### TRAP and RTE -/

/-- The code of TRAP #j: the low digit of 0xC080 is free for the operand (45_system.md R322). -/
theorem trapCode_eq (j : BitVec 4) : 0xC080#16 ||| j.setWidth 16 = BitVec.ofNat 16 (0xC080 + j.toNat) := by
  revert j; decide

theorem exec_trap (s : State) (j : BitVec 4) :
    exec (.trap j) s = s.softInterrupt (BitVec.ofNat 16 (0xC080 + j.toNat)) := by
  rw [← trapCode_eq]
  rfl

theorem State.softInterrupt_of_unblocked {s : State} (hb : s.sr.bl = false) (code : Half) :
    s.softInterrupt code = .next (s.trapEntry code 0x10#32 (s.pc + 2#32)) := by
  rw [State.softInterrupt, hb, if_neg Bool.false_ne_true, State.pcNext]

theorem State.softInterrupt_of_blocked {s : State} (hb : s.sr.bl = true) (code : Half) :
    s.softInterrupt code = .fault (.exceptionWhileBlocked code s.pc) := by
  rw [State.softInterrupt, if_pos hb]

/-- A whole-SR write with RB then cleared is the write of the word without bit 29 (45_system.md R323). -/
theorem StatusReg.toWord_ofWord_clear_rb (w : Word) :
    StatusReg.toWord { StatusReg.ofWord w with rb := false } = w &&& 0xDFFFFFFF#32 := by
  have fields : StatusReg.ofWord (w &&& 0xDFFFFFFF#32) = { StatusReg.ofWord w with rb := false } := by
    have ipl : (w &&& 0xDFFFFFFF#32).extractLsb' 2 2 = w.extractLsb' 2 2 :=
      BitVec.extractLsb'_and.trans BitVec.and_allOnes
    have mid : (w &&& 0xDFFFFFFF#32).extractLsb' 8 20 = w.extractLsb' 8 20 :=
      BitVec.extractLsb'_and.trans BitVec.and_allOnes
    simp [StatusReg.ofWord, ipl, mid, -BitVec.getLsbD_eq_getElem]
  rw [← fields, StatusReg.toWord_ofWord]

/-- The return changes SP alone, beside PC and SR. -/
theorem Frame.trapReturn (s : State) : Frame s s.trapReturn [sp] [] [] [] [] :=
  ((Frame.setReg s sp s.ssp).trans (Frame.setSr _ _)).trans (Frame.setPc _ _)

/-! ### SLEEP -/

/-- The model's test is the predicate of the claims. -/
theorem State.sleepInvalid_iff (s : State) : s.sleepInvalid = true ↔ SleepInvalid s := by
  rw [State.sleepInvalid, SleepInvalid]
  cases s.cfg.sleepRule <;> simp

theorem exec_sleep_of_valid {s : State} (h : ¬ SleepInvalid s) :
    exec .sleep s = .next (s.setSleeping true).advance := if_neg (mt s.sleepInvalid_iff.1 h)

theorem exec_sleep_of_invalid {s : State} (h : SleepInvalid s) : exec .sleep s = s.raise 0x8005#16 :=
  if_pos (s.sleepInvalid_iff.2 h)

/-! ### The accepted interrupt -/

/-- The sources of the highest class are among the candidates. -/
theorem mem_of_mem_topClass {cfg : Config} {cand : List IrqSource} {src : IrqSource} (h : src ∈ topClass cfg cand) :
    src ∈ cand := by
  unfold topClass at h
  simp only at h
  split at h
  · split at h
    · exact List.mem_of_mem_filter h
    · exact List.mem_of_mem_filter h
  · exact List.mem_of_mem_filter h

/-- Every candidate has a class, so one of the classes has a candidate. -/
theorem topClass_ne_nil {cfg : Config} {cand : List IrqSource} {src : IrqSource} (h : src ∈ cand) :
    topClass cfg cand ≠ [] := by
  have in_class : ∀ c, irqClass cfg src = c → src ∈ cand.filter fun x => irqClass cfg x == c := fun c hc =>
    List.mem_filter.2 ⟨h, beq_iff_eq.2 hc⟩
  unfold topClass
  simp only
  split
  · next no_high =>
    rw [List.isEmpty_iff] at no_high
    split
    · next no_medium =>
      rw [List.isEmpty_iff] at no_medium
      cases hc : irqClass cfg src with
      | high => exact absurd no_high (List.ne_nil_of_mem (in_class _ hc))
      | medium => exact absurd no_medium (List.ne_nil_of_mem (in_class _ hc))
      | low => exact List.ne_nil_of_mem (in_class _ hc)
    · next medium => exact fun e => medium (List.isEmpty_iff.2 e)
  · next high => exact fun e => high (List.isEmpty_iff.2 e)

section
variable {s : State} {src : IrqSource} {t : State}

/-- An accepted source is a candidate (60_exceptions.md R422). -/
theorem State.candidate_of_acceptIrq (h : s.acceptIrq = some (src, t)) : Candidate s src := by
  refine s.mem_irqCandidates.1 (mem_of_mem_topClass (cfg := s.cfg) ?_)
  unfold State.acceptIrq at h
  split at h
  · cases h
  · next e =>
    cases h
    rw [e]
    exact List.mem_cons_self
  · next first rest _ e =>
    cases h
    have inside : Config.pick s.draws (first :: rest) % (first :: rest).length < (first :: rest).length :=
      Nat.mod_lt _ (by simp)
    rw [e, List.getD_eq_getElem _ _ inside]
    exact List.getElem_mem inside

/-- Where there is a candidate, an interrupt is accepted. -/
theorem State.acceptIrq_of_candidate (h : Candidate s src) : ∃ src' u, s.acceptIrq = some (src', u) := by
  have top : topClass s.cfg s.irqCandidates ≠ [] := topClass_ne_nil (s.mem_irqCandidates.2 h)
  unfold State.acceptIrq
  split
  · next e => exact absurd e top
  · exact ⟨_, _, rfl⟩
  · exact ⟨_, _, rfl⟩

/-- Trap entry after an interrupt is accepted: the draw of the choice is not observable (60_exceptions.md R410). -/
theorem State.acceptIrq_entered (h : s.acceptIrq = some (src, t)) (code : Half) (off ret : Word) :
    Entered s (t.trapEntry code off ret) code off ret := by
  rcases s.acceptIrq_state h with rfl | rfl
  · exact t.trapEntry_entered code off ret
  · exact { s.trapEntry_entered code off ret with }

theorem irqCode_mem (src : IrqSource) : (src, irqCode src) ∈
    [(IrqSource.general, 0xC000#16), (.timer, 0xC001#16), (.uart, 0xC002#16), (.spi, 0xC003#16)] := by
  cases src <;> decide

/-- A step at which an interrupt is accepted is trap entry, asleep or awake (60_exceptions.md R421). -/
theorem step_of_acceptIrq (h : s.present.acceptIrq = some (src, t)) :
    step s = .next (t.trapEntry (irqCode src) 0x10#32 s.pc) := by
  rw [step, stepWith, h, s.present_pc]

/-- A sleeping core at which no interrupt is accepted stays as it is (45_system.md R320). -/
theorem step_of_asleep (hs : s.sleeping = true) (h : ∀ src, ¬ Candidate s.present src) : step s = .next s.present := by
  rw [step, stepWith, s.present.acceptIrq_eq_none h]
  simp only [State.present_sleeping, hs, if_true]

end

end Sys2Proof.Machine
end

section
/-! The statements of 45_system.md: the control-register moves (O17), PUSH Cn and POP Cn (O20), BREAK, TRAP and RTE (O12 to
O14), SLEEP and the interrupt that wakes (O15), and the shadow moves (O18). -/

namespace Sys2Proof.Machine

/-- Settles O17: the write and the read of the numbered register where the number allows it, a stop where not. -/
theorem controlRegisterMoves : Obligations.ControlRegisterMoves := by
  intro s n m
  have hto : IsWord (nibbles 0x4#4 0x8#4 n m) (.movToCtl n m) := isWord_nibbles rfl rfl
  have hfrom : IsWord (nibbles 0x4#4 0x9#4 n m) (.movFromCtl n m) := isWord_nibbles rfl rfl
  refine ⟨hto, fun hn => ?write, fun hn => ?writeStops, hfrom, fun hm => ?read, fun hm => ?readStops⟩
  case write =>
    have hw := (CReg.writable_iff n).2 hn
    obtain ⟨t, ht⟩ := s.setCreg_of_writable hw (s.reg m)
    obtain ⟨hcreg, hsr, hpc⟩ := setCreg_advance hw ht
    exact ⟨t.advance, exec_movToCtl_of_setCreg ht, hcreg, hsr, hpc, (Frame.setCreg ht).trans (Frame.advance t)⟩
  case writeStops =>
    exact stopsReserved_of_reserved hto (exec_movToCtl_of_not_writable (CReg.not_writable_of_mem hn))
  case read =>
    obtain ⟨v, hv⟩ := s.creg_of_named ((CReg.named_iff m).2 hm)
    obtain ⟨-, t, run, hreg, rest⟩ := writesReg_of_result hfrom (exec_movFromCtl_of_creg hv) rfl
    exact ⟨t, v, run, hv, hreg, rest⟩
  case readStops =>
    exact stopsReserved_of_reserved hfrom (exec_movFromCtl_of_not_named (CReg.not_named_of_mem hm))

/-- Settles O20: the PUSH and POP shapes for the numbers that can be read and written, a stop for the others. -/
theorem pushAndPopOfAControlRegister : Obligations.PushAndPopOfAControlRegister := by
  intro s n
  have hpush : IsWord (nibbles 0x3#4 0x1#4 n 0x9#4) (.pushCtl n) := isWord_nibbles rfl rfl
  have hpop : IsWord (nibbles 0x3#4 0x1#4 n 0xB#4) (.popCtl n) := isWord_nibbles rfl rfl
  refine ⟨hpush, hpop, fun v hv => ?push, fun hn => ?pushStops, fun hn => ?pop, fun hn => ?popStops⟩
  case push => exact pushes_of_push hpush (exec_pushCtl_of_creg hv) (by decide)
  case pushStops =>
    exact stopsReserved_of_reserved hpush (exec_pushCtl_of_not_named (CReg.not_named_of_mem hn))
  case pop =>
    have hw := (CReg.writable_iff n).2 hn
    exact ⟨popCtl_of_readable hw, raisesOnRead_of_pop (exec_popCtl_of_writable hw)⟩
  case popStops =>
    exact stopsReserved_of_reserved hpop (exec_popCtl_of_not_writable (CReg.not_writable_of_mem hn))

/-- Settles O12: BREAK is the raise of its code, which enters the handler with the pc where FAULT_SPC is the faulting
address. (The name without its prime is a keyword.) -/
theorem break' : Obligations.Break := fun s =>
  ⟨isWord_nibbles rfl rfl, rfl, fun hb hf => s.raise_entered hb hf⟩

/-- Settles O13: TRAP is the software interrupt of its code, with SR.BL clear and set. -/
theorem trap : Obligations.Trap := by
  intro s j
  refine ⟨isWord_nibbles rfl rfl, fun hb => ?_, fun hb => ?_⟩
  · exact ⟨_, (exec_trap s j).trans (State.softInterrupt_of_unblocked hb _), s.trapEntry_entered _ _ _⟩
  · exact (exec_trap s j).trans (State.softInterrupt_of_blocked hb _)

/-- Settles O14: RTE is the return, which writes PC, SP and SR alone. -/
theorem returnFromException : Obligations.ReturnFromException := by
  intro s
  refine ⟨isWord_nibbles rfl rfl, s.trapReturn, rfl, s.trapReturn_pc, ?_, ?_, Frame.trapReturn s⟩
  · exact s.setReg_reg_same sp s.ssp
  · rw [s.trapReturn_sr, StatusReg.toWord_ofWord_clear_rb]

/-- Settles O15: SLEEP by its test, and the step of a sleeping core with and without a candidate. -/
theorem sleepAndWake : Obligations.SleepAndWake := by
  intro s
  refine ⟨isWord_nibbles rfl rfl, fun h => ?sleeps, exec_sleep_of_invalid, fun hs => ⟨step_of_asleep hs, ?wakes⟩⟩
  case sleeps => exact ⟨_, exec_sleep_of_valid h, rfl, rfl, rfl, Frame.advance (s.setSleeping true)⟩
  case wakes =>
    rintro ⟨_, hcand⟩
    obtain ⟨src, u, hu⟩ := State.acceptIrq_of_candidate hcand
    exact ⟨src, irqCode src, _, State.candidate_of_acceptIrq hu, irqCode_mem src, step_of_acceptIrq hu, rfl, rfl,
      State.acceptIrq_entered hu _ _ _⟩

/-- Settles O18: both shadow moves are reserved for all operands. -/
theorem shadowMovesStop : Obligations.ShadowMovesStop := fun _ _ _ =>
  ⟨stopsReserved_of_reserved (isWord_nibbles rfl rfl) rfl, stopsReserved_of_reserved (isWord_nibbles rfl rfl) rfl⟩

end Sys2Proof.Machine
end

section
/-! SUPPORT. The optional parts of 46_fpu.md R350: what an instruction of a part answers where the part is present and where
it is absent, and which words belong to the FPU. -/

namespace Sys2Proof.Machine

section
variable {s : State} {i : Instr} {run : Outcome}

theorem withFpu_of_present (h : s.cfg.hasFpu = true) : s.withFpu i run = run := if_pos h

theorem withFpu_of_absent (h : s.cfg.hasFpu = false) : s.withFpu i run = s.absent i :=
  if_neg (Bool.eq_false_iff.1 h)

theorem withFpuStack_of_present (hf : s.cfg.hasFpu = true) (hp : s.cfg.hasFpuPushPop = true) :
    s.withFpuStack i run = run := if_pos (Bool.and_eq_true_iff.2 ⟨hf, hp⟩)

theorem withFpuStack_of_absent (h : (s.cfg.hasFpu && s.cfg.hasFpuPushPop) = false) :
    s.withFpuStack i run = s.absent i := if_neg (Bool.eq_false_iff.1 h)

/-- An instruction of an absent part stops with its word and its address; every other instruction is present. -/
theorem exec_of_not_present (h : Instr.present s.cfg i = false) : exec i s = .fault (.partAbsent (encode i) s.pc) := by
  cases i with
  | pushFpu | popFpu => exact withFpuStack_of_absent h
  | fmovsStore | fmovdStore | fmovsStoreDlr | fmovdStoreDlr | fmovsLoad | fmovdLoad | fmovsLoadDlr | fmovdLoadDlr
  | fadd | fsub | fmul | fcmpeq | fcmpgt | fmovReg | fldcf | fldcd | fldci | fldch | fstcf | fstcd | fstci | fstch
  | fneg | fabs => exact withFpu_of_absent h
  | _ => cases h

end

/-! ### The words of the FPU (30_encoding.md R101) -/

/-- `w` is the word of `i`, and `i` is present exactly in the implementations that have `part`. -/
def IsWordOfPart (part : Config → Bool) (w : Half) (i : Instr) : Prop :=
  encode i = w ∧ ∀ cfg, Instr.present cfg i = part cfg

theorem isWordOfPart_of_decodeOneFpu {n m : BitVec 4} {i : Instr} (h : decodeOneFpu n m = .ok i) :
    IsWordOfPart Config.hasFpu (nibbles 0x9#4 0xF#4 n m) i := by
  unfold decodeOneFpu at h
  split at h <;> cases h <;> exact ⟨rfl, fun _ => rfl⟩

theorem isWordOfPart_of_decodeBlock9 {b n m : BitVec 4} {i : Instr} (h : decodeBlock9 b n m = .ok i) :
    IsWordOfPart Config.hasFpu (nibbles 0x9#4 b n m) i := by
  unfold decodeBlock9 at h
  split at h
  case h_15 => exact isWordOfPart_of_decodeOneFpu h
  all_goals cases h <;> exact ⟨rfl, fun _ => rfl⟩

theorem isWordOfPart_of_decodeOneRegister38 {n m : BitVec 4} {i : Instr} (h : decodeOneRegister38 n m = .ok i) :
    IsWordOfPart (fun cfg => cfg.hasFpu && cfg.hasFpuPushPop) (nibbles 0x3#4 0x8#4 n m) i := by
  unfold decodeOneRegister38 at h
  split at h <;> cases h <;> exact ⟨rfl, fun _ => rfl⟩

section
variable {w : Half} {i : Instr}

/-- The words 9zzz are the FPU's. -/
theorem isWordOfPart_block9 (hA : nibbleA w = 9#4) (h : decodeWord w = .ok i) : IsWordOfPart Config.hasFpu w i := by
  rw [decodeWord, hA] at h
  rw [← nibbles_of_word w, hA]
  exact isWordOfPart_of_decodeBlock9 h

/-- The words 38nz are those of PUSH FRn and POP FRn. -/
theorem isWordOfPart_block38 (hA : nibbleA w = 3#4) (hB : nibbleB w = 8#4) (h : decodeWord w = .ok i) :
    IsWordOfPart (fun cfg => cfg.hasFpu && cfg.hasFpuPushPop) w i := by
  rw [decodeWord, hA, hB] at h
  rw [← nibbles_of_word w, hA, hB]
  exact isWordOfPart_of_decodeOneRegister38 h

/-- A word of an absent part stops naming the word. -/
theorem IsWordOfPart.stops {part : Config → Bool} {s : State} (h : IsWordOfPart part w i) (absent : part s.cfg = false) :
    exec i s = .fault (.partAbsent w s.pc) := by
  obtain ⟨rfl, present⟩ := h
  exact exec_of_not_present ((present s.cfg).trans absent)

end

end Sys2Proof.Machine
end

section
/-! SUPPORT. The shapes the instructions of 46_fpu.md end in, each proved once for every register, address and value: a
result in an FPU register, a POP to one, and an FMOV to or from memory, with and without the clobber of DLR (R354). -/

namespace Sys2Proof.Machine

variable {s : State} {i : Instr} {w : Half} {n : FReg}

/-! ### Results -/

theorem writesFreg_of_fresult {v : DWord} (hw : IsWord w i) (run : exec i s = s.withFpu i (s.fresult n v)) :
    WritesFreg s i w n v := by
  refine ⟨hw, fun hf => ⟨_, run.trans (withFpu_of_present hf), ?_, rfl, rfl, ?_⟩⟩
  · rw [State.advance_freg, State.setFreg_freg, if_pos rfl]
  · exact (Frame.setFreg s n v).trans (Frame.advance _)

theorem writesFregFromDlr_of_fresultDlr {v : DWord} (hw : IsWord w i)
    (run : exec i s = s.withFpu i (s.fresultDlr n v)) : WritesFregFromDlr s i w n v := by
  refine ⟨hw, fun hf => ⟨_, run.trans (withFpu_of_present hf), ?_, ?_, rfl, rfl, ?_⟩⟩
  · rw [State.advance_freg, State.dlrClobber_freg, State.setFreg_freg, if_pos rfl]
  · exact (dlrClobbered (s.setFreg n v) none).from (Nat.le_refl _)
  · exact ((Frame.setFreg s n v).trans (Frame.dlrClobber _ none)).trans (Frame.advance _)

/-- Draws alone are outside every frame (00_scope.md R11). -/
theorem Frame.draws (s : State) (k : Nat) : Frame s { s with draws := k } [] [] [] [] [] := { Frame.refl s with }

/-- A result in DLR whose high half is a free draw of the instruction itself (46_fpu.md R376). -/
theorem toDlr_freeHalf_next (s : State) (v : Half) : ∃ t,
    State.toDlr { s with draws := s.draws + 1 } (Config.freeHalf s.draws ++ v) = .next t ∧ s.draws < t.draws ∧
      t.reg dlr = Config.freeHalf s.draws ++ v ∧ t.sr = s.sr ∧ t.pc = s.pc + 2#32 ∧ Frame s t [dlr] [] [] [] [] := by
  refine ⟨_, rfl, Nat.lt_succ_self _, ?_, rfl, rfl, ?_⟩
  · rw [State.advance_reg, State.setReg_reg_same]
  · exact ((Frame.draws s _).trans (Frame.setReg _ dlr _)).trans (Frame.advance _)

/-! ### POP FRn -/

theorem exec_popFpu_of_present (hf : s.cfg.hasFpu = true) (hp : s.cfg.hasFpuPushPop = true) :
    exec (.popFpu n) s = s.pop 8 fun bs t => t.setFreg n (leWord 64 bs) := withFpuStack_of_present hf hp

/-- A POP FRn that passes its check: FRn takes the eight bytes at the old SP, and SP moves up. -/
theorem popFpu_of_readable (hf : s.cfg.hasFpu = true) (hp : s.cfg.hasFpuPushPop = true)
    (h : Readable s (s.reg sp) 8) :
    ∃ t, exec (.popFpu n) s = .next t ∧ t.freg n = s.le64 (s.reg sp) ∧ t.reg sp = s.reg sp + 8#32 ∧ t.sr = s.sr ∧
      t.pc = s.pc + 2#32 ∧ Frame s t [sp] [n] [] [] (accessAddrs (s.reg sp) 8) := by
  refine ⟨_, (exec_popFpu_of_present hf hp).trans (pop_of_readable h _), ?_, ?_, ?_, ?_, (Frame.setFreg _ n _).popped⟩
  · rw [State.advance_freg, State.setFreg_freg, if_pos rfl, State.leWord_load8]
  · rw [State.advance_reg, State.setFreg_reg, State.setReg_reg_same]
  · simp
  · simp

/-! ### FMOV to and from memory -/

/-- `t` is `u` gone on to the following instruction, the registers `used` for the address undefined (46_fpu.md R354). -/
structure FmovEnds (used : List Reg) (u t : State) : Prop where
  clobbered : dlr ∈ used → DlrClobbered u t none
  sr        : t.sr = u.sr
  pc        : t.pc = u.pc + 2#32
  frame     : Frame u t used [] [] [] []

theorem fmovEnds_advance (u : State) : FmovEnds [] u u.advance :=
  ⟨fun h => absurd h List.not_mem_nil, rfl, rfl, Frame.advance u⟩

theorem fmovEnds_dlrClobber (u : State) : FmovEnds [dlr] u (u.dlrClobber none).advance :=
  ⟨fun _ => dlrClobbered u none, rfl, rfl, (Frame.dlrClobber u none).trans (Frame.advance _)⟩

variable {a : Word} {k : Nat} {used : List Reg} {finish : State → State}

theorem fpuStores_of_storeThen {b : Nat} {v : BitVec b} (hw : IsWord w i) (ends : ∀ u, FmovEnds used u (finish u))
    (run : exec i s = s.withFpu i (s.storeThen a k v finish)) (hk : k ≤ 4294967296) :
    FpuStores s i w a k v used := by
  refine ⟨hw, fun hf => ?_⟩
  rw [run, withFpu_of_present hf]
  obtain ⟨clobbered, sr, pc, frame⟩ := ends (s.storeCells (cellsOf a k v))
  refine ⟨fun hr => ⟨_, storeThen_of_writable hr v _, ?_, fun hu => (clobbered hu).from ?_, ?_, ?_,
    frame.after_storeCells⟩, fun code h => ⟨memWrite_error_code h, storeThen_of_error h _⟩⟩
  · exact fun j hj hd => (frame.mem _ List.not_mem_nil).trans (stored_storeCells s a hk v j hj hd)
  · rw [State.storeCells_draws]
  · rw [sr, State.storeCells_sr]
  · rw [pc, State.storeCells_pc]

theorem fpuLoads_of_loadThen {value : List Byte → DWord} {v : DWord} (hw : IsWord w i)
    (ends : ∀ u, FmovEnds used u (finish u))
    (run : exec i s = s.withFpu i (s.loadThen a k fun bs t => finish (t.setFreg n (value bs))))
    (hv : value (s.loadBytes a k) = v) : FpuLoads s i w n a k v used := by
  refine ⟨hw, fun hf => ?_⟩
  rw [RaisesOnRead, run, withFpu_of_present hf]
  obtain ⟨clobbered, sr, pc, frame⟩ := ends ((s.noteLoad a k).setFreg n (value (s.loadBytes a k)))
  refine ⟨fun hr => ⟨_, loadThen_of_readable hr _, ?_, fun hu => (clobbered hu).from (s.noteLoad_draws_le a k), ?_, ?_,
    ((Frame.setFreg _ n _).trans frame).after_noteLoad⟩, fun code h => ⟨memRead_error_code h, loadThen_of_error h _⟩⟩
  · rw [frame.fregs n List.not_mem_nil, State.setFreg_freg, if_pos rfl, hv]
  · rw [sr, State.setFreg_sr, State.noteLoad_sr]
  · rw [pc, State.setFreg_pc, State.noteLoad_pc]

end Sys2Proof.Machine
end

section
/-! SUPPORT. What FLDCD and FSTCD answer where their function is supplied and where it is not, and the control registers
after FSTCD (46_fpu.md R370, R374; log entry 18). -/

namespace Sys2Proof.Machine

variable {s : State} {n : FReg}

theorem exec_fldcd_of_supplied (h : s.cfg.hasFldcd = true) :
    exec (.fldcd n) s = s.withFpu (.fldcd n) (s.fresultDlr n (Config.fldcd s.fpuView)) :=
  congrArg (s.withFpu (.fldcd n)) (if_pos h)

theorem exec_fldcd_of_not_supplied (hf : s.cfg.hasFpu = true) (h : s.cfg.hasFldcd = false) :
    exec (.fldcd n) s = .refused .fldcdNotSupplied :=
  (withFpu_of_present hf).trans (if_neg (Bool.eq_false_iff.1 h))

theorem exec_fstcd_of_supplied (hf : s.cfg.hasFpu = true) (h : s.cfg.hasFstcd = true) :
    exec (.fstcd n) s = .next (s.takeFstcd (Config.fstcd (s.freg n) s.fpuView.advance)) :=
  (withFpu_of_present hf).trans (if_pos h)

theorem exec_fstcd_of_not_supplied (hf : s.cfg.hasFpu = true) (h : s.cfg.hasFstcd = false) :
    exec (.fstcd n) s = .refused .fstcdNotSupplied :=
  (withFpu_of_present hf).trans (if_neg (Bool.eq_false_iff.1 h))

/-- The control registers but PC, SR and GBR are the function's to write. -/
theorem State.takeFstcd_creg (s u : State) {c : CReg} (h0 : c ≠ 0#4) (h2 : c ≠ 2#4) (h6 : c ≠ 6#4) :
    (s.takeFstcd u).creg c = u.creg c := by
  have but_gbr : u.setCreg 6#4 s.gbr = some { u with gbr := s.gbr } := rfl
  rw [← State.setCreg_creg_ne h0 h2 h6 but_gbr]
  exact State.creg_congr h0 h2 rfl rfl rfl rfl (s.takeFstcd_gbr u) rfl rfl rfl

end Sys2Proof.Machine
end

section
/-! The statements of 46_fpu.md: PUSH FRn and POP FRn (O21), FMOV to and from memory (O51, O52), the absent FPU (O56),
arithmetic and compares (O53), conversions (O54), FLDCD and FSTCD (O55). -/

namespace Sys2Proof.Machine

/-- Settles O21: the PUSH and POP shapes with an 8-byte slot. -/
theorem pushAndPopOfAnFpuRegister : Obligations.PushAndPopOfAnFpuRegister := by
  intro s n
  have hpush : IsWord (nibbles 0x3#4 0x8#4 n 0x2#4) (.pushFpu n) := isWord_nibbles rfl rfl
  refine ⟨hpush, isWord_nibbles rfl rfl, fun hf hp => ⟨?_, popFpu_of_readable hf hp, ?_⟩⟩
  · exact pushes_of_push hpush (withFpuStack_of_present hf hp) (by decide)
  · exact raisesOnRead_of_pop (exec_popFpu_of_present hf hp)

/-- Settles O51: each is a store of 4 or 8 bytes that then goes on, the indexed forms with the clobber of DLR. -/
theorem fmovStores : Obligations.FmovStores := fun _ _ _ =>
  ⟨fpuStores_of_storeThen (isWord_nibbles rfl rfl) fmovEnds_advance rfl (by decide),
    fpuStores_of_storeThen (isWord_nibbles rfl rfl) fmovEnds_advance rfl (by decide),
    fpuStores_of_storeThen (isWord_nibbles rfl rfl) fmovEnds_dlrClobber rfl (by decide),
    fpuStores_of_storeThen (isWord_nibbles rfl rfl) fmovEnds_dlrClobber rfl (by decide)⟩

/-- Settles O52: each is a load of 4 or 8 bytes, the 4 converted, that then goes on as the store of its form does. -/
theorem fmovLoads : Obligations.FmovLoads := by
  intro s n m
  refine ⟨?single, ?double, ?singleDlr, ?doubleDlr⟩
  case single =>
    exact fpuLoads_of_loadThen (isWord_nibbles rfl rfl) fmovEnds_advance rfl
      (congrArg Config.fmovSIn (s.leWord_load4 (s.eaReg m)))
  case double =>
    exact fpuLoads_of_loadThen (isWord_nibbles rfl rfl) fmovEnds_advance rfl (s.leWord_load8 (s.eaReg m))
  case singleDlr =>
    exact fpuLoads_of_loadThen (isWord_nibbles rfl rfl) fmovEnds_dlrClobber rfl
      (congrArg Config.fmovSIn (s.leWord_load4 (s.eaIdx 4#32 m)))
  case doubleDlr =>
    exact fpuLoads_of_loadThen (isWord_nibbles rfl rfl) fmovEnds_dlrClobber rfl (s.leWord_load8 (s.eaIdx 8#32 m))

/-- Settles O56: the word belongs to the FPU or to its PUSH and POP, and that part is absent. -/
theorem absentFpuStops : Obligations.AbsentFpuStops := by
  rintro s w i hd (⟨hf, hA | ⟨hA, hB, -⟩⟩ | ⟨hp, hA, hB, -⟩)
  · exact (isWordOfPart_block9 hA hd).stops hf
  · exact (isWordOfPart_block38 hA hB hd).stops (Bool.and_eq_false_iff.2 (.inl hf))
  · exact (isWordOfPart_block38 hA hB hd).stops (Bool.and_eq_false_iff.2 (.inr hp))

/-- Settles O53: a result in FRn of FRn and FRm in this order, or a T alone. -/
theorem fpuArithmeticAndCompares : Obligations.FpuArithmeticAndCompares := by
  intro s n m
  refine ⟨?_, ?_, ?_, fun hf => ?fcmpeq, fun hf => ?fcmpgt, ?_⟩
  case fcmpeq => exact writesT_of_flag (isWord_nibbles rfl rfl) (withFpu_of_present hf) rfl
  case fcmpgt => exact writesT_of_flag (isWord_nibbles rfl rfl) (withFpu_of_present hf) rfl
  all_goals exact writesFreg_of_fresult (isWord_nibbles rfl rfl) rfl

/-- Settles O54: results in FRn from DLR, in DLR from FRn, and in FRn from itself. -/
theorem fpuConversions : Obligations.FpuConversions := by
  intro s n
  refine ⟨?fldcf, ?fldci, ?fldch, fun hf => ?fstcf, fun hf => ?fstci, fun hf => ?fstch, ?fneg, ?fabs⟩
  case fldcf => exact writesFregFromDlr_of_fresultDlr (isWord_nibbles rfl rfl) rfl
  case fldci => exact writesFregFromDlr_of_fresultDlr (isWord_nibbles rfl rfl) rfl
  case fldch => exact writesFregFromDlr_of_fresultDlr (isWord_nibbles rfl rfl) rfl
  case fstcf => exact writesReg_of_result (isWord_nibbles rfl rfl) (withFpu_of_present hf) rfl
  case fstci => exact writesReg_of_result (isWord_nibbles rfl rfl) (withFpu_of_present hf) rfl
  case fstch =>
    obtain ⟨t, next, drawn, rest⟩ := toDlr_freeHalf_next s (Config.cvtF16Out (s.freg n))
    have run : exec (.fstch n) s = .next t := (withFpu_of_present hf).trans next
    exact ⟨s.draws, Nat.le_refl _, ⟨t, run, drawn⟩, isWord_nibbles rfl rfl, t, run, rest⟩
  case fneg => exact writesFreg_of_fresult (isWord_nibbles rfl rfl) rfl
  case fabs => exact writesFreg_of_fresult (isWord_nibbles rfl rfl) rfl

/-- Settles O55: FLDCD is a result from DLR; the state after FSTCD is the function's, taken over by `State.takeFstcd`. -/
theorem suppliedFldcdAndFstcd : Obligations.SuppliedFldcdAndFstcd := by
  intro s n hf
  refine ⟨fun h => ?fldcd, exec_fldcd_of_not_supplied hf, fun h => ⟨isWord_nibbles rfl rfl, ?fstcd⟩,
    exec_fstcd_of_not_supplied hf⟩
  case fldcd => exact writesFregFromDlr_of_fresultDlr (isWord_nibbles rfl rfl) (exec_fldcd_of_supplied h)
  case fstcd =>
    exact ⟨_, _, exec_fstcd_of_supplied hf h, rfl, s.takeFstcd_reg _, s.takeFstcd_freg _, s.takeFstcd_pc _,
      s.takeFstcd_sleeping _, fun _ => s.takeFstcd_creg _, s.takeFstcd_sr _, s.takeFstcd_gbr _,
      fun _ => s.takeFstcd_read _, fun _ hd => s.takeFstcd_read_outside _ (.inr hd), s.takeFstcd_devLog _,
      s.takeFstcd_cfg _, s.takeFstcd_pending _, s.takeFstcd_inputs _⟩

end Sys2Proof.Machine
end

section
/-! SUPPORT. States that differ in bits of SR, and of SR as saved in SSR, that no instruction reads as a bit (10_state.md
R33, R36, R39; 60_exceptions.md R430, R440): which of them look the same, and the operations at two such states. -/

namespace Sys2Proof.Machine

/-! ### The bits kept -/

/-- Of SR only the bits that `k` has set. -/
def StatusReg.only (r k : StatusReg) : StatusReg :=
  { t := r.t && k.t, s := r.s && k.s, ipl := r.ipl &&& k.ipl, p := r.p && k.p, q := r.q && k.q, r := r.r && k.r,
    o := r.o && k.o, mid := r.mid &&& k.mid, bl := r.bl && k.bl, rb := r.rb && k.rb, md := r.md && k.md,
    top := r.top && k.top }

/-- Of SR, and of SR as saved in SSR, only the bits that `k` has set. -/
def State.onlyStatus (k : StatusReg) (s : State) : State :=
  { s with sr := s.sr.only k, ssr := s.ssr &&& k.toWord }

/-- The bits of SR that some rule reads are among those of `k`: T, IPL and BL (10_state.md R35, R37, R38). -/
structure StatusReg.KeepsEffective (k : StatusReg) : Prop where
  t   : k.t = true
  ipl : k.ipl = 3#2
  bl  : k.bl = true

/-- All bits of SR but MD. -/
def StatusReg.exceptMode : StatusReg := StatusReg.ofWord 0xBFFFFFFF#32

/-- T, IPL and BL. -/
def StatusReg.effective : StatusReg := StatusReg.ofWord 0x1000000D#32

theorem StatusReg.exceptMode_keepsEffective : StatusReg.exceptMode.KeepsEffective := ⟨rfl, rfl, rfl⟩

theorem StatusReg.effective_keepsEffective : StatusReg.effective.KeepsEffective := ⟨rfl, rfl, rfl⟩

theorem StatusReg.only_exceptMode (r : StatusReg) : r.only exceptMode = { r with md := false } := by
  have ipl : r.ipl &&& 3#2 = r.ipl := BitVec.and_allOnes
  have mid : r.mid &&& 0xFFFFF#20 = r.mid := BitVec.and_allOnes
  simp [StatusReg.only, StatusReg.exceptMode, StatusReg.ofWord, ipl, mid]

theorem StatusReg.only_effective (r : StatusReg) : r.only effective = { r.masks with t := r.t } := by
  have ipl : r.ipl &&& 3#2 = r.ipl := BitVec.and_allOnes
  simp [StatusReg.only, StatusReg.effective, StatusReg.ofWord, StatusReg.masks, ipl]

theorem State.forgetMode_eq : State.forgetMode = State.onlyStatus StatusReg.exceptMode := by
  funext s
  rw [State.forgetMode, State.onlyStatus, StatusReg.only_exceptMode, StatusReg.exceptMode, StatusReg.toWord_ofWord]

theorem State.forgetIdle_eq : State.forgetIdle = State.onlyStatus StatusReg.effective := by
  funext s
  rw [State.forgetIdle, State.onlyStatus, StatusReg.only_effective, StatusReg.effective, StatusReg.toWord_ofWord]

/-- The bits kept of the word are the word of the fields kept. -/
theorem StatusReg.toWord_only (r k : StatusReg) : (r.only k).toWord = r.toWord &&& k.toWord := by
  have fields : StatusReg.ofWord (r.toWord &&& k.toWord) = r.only k := by
    simp [StatusReg.ofWord, StatusReg.only, BitVec.extractLsb'_and, -BitVec.getLsbD_eq_getElem]
  rw [← fields, StatusReg.toWord_ofWord]

theorem StatusReg.ofWord_only (w : Word) (k : StatusReg) :
    (StatusReg.ofWord w).only k = StatusReg.ofWord (w &&& k.toWord) := by
  rw [← StatusReg.ofWord_toWord ((StatusReg.ofWord w).only k), StatusReg.toWord_only, StatusReg.toWord_ofWord]

/-- Two values of SR, and of SSR, that agree in the bits of `k`. -/
structure StatusAlike (k r : StatusReg) (x : Word) (q : StatusReg) (y : Word) : Prop where
  sr  : r.only k = q.only k
  ssr : x &&& k.toWord = y &&& k.toWord

namespace StatusAlike

variable {k r q : StatusReg} {x y : Word}

/-- RTE puts the saved bits back into SR (45_system.md R323). -/
theorem returned (h : StatusAlike k r x q y) :
    StatusAlike k { StatusReg.ofWord x with rb := false } x { StatusReg.ofWord y with rb := false } y where
  sr := by
    have e : (StatusReg.ofWord x).only k = (StatusReg.ofWord y).only k := by
      rw [StatusReg.ofWord_only, StatusReg.ofWord_only, h.ssr]
    simp_all [StatusReg.only]
  ssr := h.ssr

/-- Trap entry saves the bits of SR in SSR (60_exceptions.md R410). -/
theorem entered (h : StatusAlike k r x q y) : StatusAlike k r.entered r.toWord q.entered q.toWord where
  sr := by
    have e := h.sr
    simp_all [StatusReg.only, StatusReg.entered]
  ssr := by rw [← StatusReg.toWord_only, ← StatusReg.toWord_only, h.sr]

theorem withT (h : StatusAlike k r x q y) (b : Bool) : StatusAlike k (r.withT b) x (q.withT b) y where
  sr := by
    have e := h.sr
    simp_all [StatusReg.only, StatusReg.withT]
  ssr := h.ssr

theorem withS (h : StatusAlike k r x q y) (b : Bool) : StatusAlike k (r.withS b) x (q.withS b) y where
  sr := by
    have e := h.sr
    simp_all [StatusReg.only, StatusReg.withS]
  ssr := h.ssr

/-- NOTS reads S and writes it alone, so where S differs it is not among the bits of `k`. -/
theorem invertS (h : StatusAlike k r x q y) : StatusAlike k (r.withS !r.s) x (q.withS !q.s) y where
  sr := by
    have e := h.sr
    simp only [StatusReg.only, StatusReg.withS, StatusReg.mk.injEq] at e ⊢
    obtain ⟨t, s, rest⟩ := e
    refine ⟨t, ?_, rest⟩
    cases hs : k.s with
    | false => rw [Bool.and_false, Bool.and_false]
    | true =>
      rw [hs, Bool.and_true, Bool.and_true] at s
      rw [s]
  ssr := h.ssr

theorem t_eq (h : StatusAlike k r x q y) (hk : k.KeepsEffective) : r.t = q.t := by
  simpa [StatusReg.only, hk.t] using congrArg StatusReg.t h.sr

theorem ipl_eq (h : StatusAlike k r x q y) (hk : k.KeepsEffective) : r.ipl = q.ipl := by
  have e : r.ipl &&& k.ipl = q.ipl &&& k.ipl := congrArg StatusReg.ipl h.sr
  rw [hk.ipl] at e
  exact BitVec.and_allOnes.symm.trans (e.trans BitVec.and_allOnes)

theorem bl_eq (h : StatusAlike k r x q y) (hk : k.KeepsEffective) : r.bl = q.bl := by
  simpa [StatusReg.only, hk.bl] using congrArg StatusReg.bl h.sr

theorem masks_eq (h : StatusAlike k r x q y) (hk : k.KeepsEffective) : r.masks = q.masks :=
  StatusReg.masks_eq.2 ⟨h.ipl_eq hk, h.bl_eq hk⟩

end StatusAlike

/-! ### The state with another status -/

/-- The state with another SR and another SSR. -/
def State.withStatus (s : State) (q : StatusReg) (y : Word) : State := { s with sr := q, ssr := y }

theorem State.onlyStatus_eq_iff {k : StatusReg} {s t : State} : s.onlyStatus k = t.onlyStatus k ↔
    t = s.withStatus t.sr t.ssr ∧ StatusAlike k s.sr s.ssr t.sr t.ssr := by
  constructor
  · intro h
    constructor
    · cases s; cases t
      simp_all [State.onlyStatus, State.withStatus]
    · exact ⟨congrArg State.sr h, congrArg State.ssr h⟩
  · rintro ⟨e, hsr, hssr⟩
    rw [State.onlyStatus, State.onlyStatus, ← hsr, ← hssr, e]
    rfl

section
variable (s : State) (q : StatusReg) (y : Word)

@[simp] theorem State.withStatus_cfg : (s.withStatus q y).cfg = s.cfg := rfl
@[simp] theorem State.withStatus_sr : (s.withStatus q y).sr = q := rfl
@[simp] theorem State.withStatus_ssr : (s.withStatus q y).ssr = y := rfl
@[simp] theorem State.withStatus_isDevice : (s.withStatus q y).isDevice = s.isDevice := rfl

theorem State.clobber_withStatus (n : Reg) (d : Option Reg) :
    (s.withStatus q y).clobber n d = (s.clobber n d).withStatus q y := by
  unfold State.clobber; split <;> rfl

theorem State.dlrClobber_withStatus (d : Option Reg) :
    (s.withStatus q y).dlrClobber d = (s.dlrClobber d).withStatus q y := s.clobber_withStatus q y dlr d

theorem State.movClobber_withStatus (d : Option Reg) :
    (s.withStatus q y).movClobber d = (s.movClobber d).withStatus q y := by
  rw [State.movClobber, State.clobber_withStatus, State.clobber_withStatus, State.movClobber]

theorem State.noteLoad_withStatus (a : Word) (n : Nat) :
    (s.withStatus q y).noteLoad a n = (s.noteLoad a n).withStatus q y := by
  unfold State.noteLoad
  rw [State.withStatus_isDevice]
  split <;> rfl

theorem State.storeCell_withStatus (c : Host.Cell) :
    (s.withStatus q y).storeCell c = (s.storeCell c).withStatus q y := by
  unfold State.storeCell
  rw [State.withStatus_isDevice]
  split <;> rfl

theorem State.storeCells_withStatus (cs : List Host.Cell) :
    (s.withStatus q y).storeCells cs = (s.storeCells cs).withStatus q y := by
  have folded : cs.foldl State.storeCell (s.withStatus q y) = (cs.foldl State.storeCell s).withStatus q y := by
    induction cs generalizing s with
    | nil => rfl
    | cons c cs ih => rw [List.foldl_cons, List.foldl_cons, State.storeCell_withStatus, ih]
  unfold State.storeCells
  rw [folded, State.withStatus_isDevice]
  split <;> rfl

theorem State.faultDrawn_withStatus : (s.withStatus q y).faultDrawn = s.faultDrawn.withStatus q y := by
  unfold State.faultDrawn
  rw [State.withStatus_cfg]
  cases s.cfg.faultSpc <;> rfl

/-- A control register but SR and SSR reads the same. -/
theorem State.creg_withStatus {c : CReg} (h2 : c ≠ 2#4) (h12 : c ≠ 12#4) :
    (s.withStatus q y).creg c = s.creg c := by
  unfold State.creg
  split <;> try contradiction
  all_goals rfl

/-- A write of a control register but SR and SSR leaves both as they are. -/
theorem State.setCreg_withStatus {c : CReg} (h2 : c ≠ 2#4) (h12 : c ≠ 12#4) (v : Word) :
    ((s.withStatus q y).setCreg c v).getD (s.withStatus q y) = ((s.setCreg c v).getD s).withStatus q y := by
  unfold State.setCreg
  split <;> try contradiction
  all_goals rfl

/-- The state of a supplied FSTCD is taken over with its SSR. -/
theorem State.takeFstcd_withStatus (u : State) :
    (s.withStatus q y).takeFstcd u = (s.takeFstcd u).withStatus q u.ssr := by
  have cells : (s.withStatus q y).fstcdCells u = s.fstcdCells u := rfl
  rw [State.takeFstcd, cells, State.storeCells_withStatus]
  rfl

end

/-! ### Outcomes -/

/-- The outcomes agree but for the bits of SR and SSR outside `k`. -/
abbrev AgreeOn (k : StatusReg) : Outcome → Outcome → Prop := AgreeBut (State.onlyStatus k)

/-- `f` neither reads nor writes SR and SSR: it commutes with putting others in their place. -/
def StatusBlind (f : State → State) : Prop := ∀ u q y, f (u.withStatus q y) = (f u).withStatus q y

theorem StatusBlind.sr {f : State → State} (hf : StatusBlind f) (u : State) : (f u).sr = u.sr := by
  have e : f u = (f u).withStatus u.sr u.ssr := hf u u.sr u.ssr
  rw [e, State.withStatus_sr]

theorem StatusBlind.ssr {f : State → State} (hf : StatusBlind f) (u : State) : (f u).ssr = u.ssr := by
  have e : f u = (f u).withStatus u.sr u.ssr := hf u u.sr u.ssr
  rw [e, State.withStatus_ssr]

theorem setReg_advance_blind (n : Reg) (v : Word) : StatusBlind fun u => (u.setReg n v).advance := fun _ _ _ => rfl

theorem setFreg_advance_blind (n : FReg) (v : DWord) : StatusBlind fun u => (u.setFreg n v).advance :=
  fun _ _ _ => rfl

theorem dlrClobber_advance_blind (d : Option Reg) : StatusBlind fun u => (u.dlrClobber d).advance := fun u q y =>
  congrArg State.advance (u.dlrClobber_withStatus q y d)

theorem setReg_dlrClobber_blind (n : Reg) (v : Word) (d : Option Reg) :
    StatusBlind fun u => ((u.setReg n v).dlrClobber d).advance := fun u => dlrClobber_advance_blind d (u.setReg n v)

theorem setFreg_dlrClobber_blind (n : FReg) (v : DWord) (d : Option Reg) :
    StatusBlind fun u => ((u.setFreg n v).dlrClobber d).advance := fun u => dlrClobber_advance_blind d (u.setFreg n v)

theorem movClobber_advance_blind (d : Option Reg) : StatusBlind fun u => (u.movClobber d).advance := fun u q y =>
  congrArg State.advance (u.movClobber_withStatus q y d)

theorem setReg_movClobber_blind (n : Reg) (v : Word) (d : Option Reg) :
    StatusBlind fun u => ((u.setReg n v).movClobber d).advance := fun u => movClobber_advance_blind d (u.setReg n v)

theorem setCreg_advance_blind {c : CReg} (h2 : c ≠ 2#4) (h12 : c ≠ 12#4) (v : Word) :
    StatusBlind fun u => ((u.setCreg c v).getD u).advance := fun u q y =>
  congrArg State.advance (u.setCreg_withStatus q y h2 h12 v)

section
variable {k : StatusReg} {s : State} {q : StatusReg} {y : Word}

/-- Next states that are alike. -/
theorem StatusAlike.next (h : StatusAlike k s.sr s.ssr q y) : AgreeOn k (.next s) (.next (s.withStatus q y)) :=
  State.onlyStatus_eq_iff.2 ⟨rfl, h⟩

/-- Alike states are so after the same change of other things. -/
theorem StatusBlind.next {f : State → State} (hf : StatusBlind f) (h : StatusAlike k s.sr s.ssr q y) :
    AgreeOn k (.next (f s)) (.next (f (s.withStatus q y))) := by
  rw [hf s q y]
  rw [← hf.sr s, ← hf.ssr s] at h
  exact h.next

end

namespace StatusAlike
variable {k : StatusReg} {s : State} {q : StatusReg} {y : Word}

section
variable (h : StatusAlike k s.sr s.ssr q y) (hk : k.KeepsEffective)
include h

theorem trapEntry (code : Half) (off ret : Word) :
    AgreeOn k (.next (s.trapEntry code off ret)) (.next ((s.withStatus q y).trapEntry code off ret)) :=
  h.entered.next (s := s.trapEntry code off ret)

include hk in
/-- A general fault depends on SR.BL alone (60_exceptions.md R423). -/
theorem raise (code : Half) : AgreeOn k (s.raise code) ((s.withStatus q y).raise code) := by
  unfold State.raise
  rw [State.withStatus_sr, ← h.bl_eq hk, State.faultDrawn_withStatus]
  split
  · exact rfl
  · rw [← s.faultDrawn_sr, ← s.faultDrawn_ssr] at h
    exact h.trapEntry code 0x08#32 s.faultRet

include hk in
theorem softInterrupt (code : Half) : AgreeOn k (s.softInterrupt code) ((s.withStatus q y).softInterrupt code) := by
  unfold State.softInterrupt
  rw [State.withStatus_sr, ← h.bl_eq hk]
  split
  · exact rfl
  · exact h.trapEntry code 0x10#32 s.pcNext

include hk in
/-- The checks and the bytes of a load do not depend on SR and SSR. -/
theorem loadThen (a : Word) (n : Nat) {done : List Byte → State → State}
    (hd : ∀ bs u, StatusAlike k u.sr u.ssr q y →
      AgreeOn k (.next (done bs u)) (.next (done bs (u.withStatus q y)))) :
    AgreeOn k (s.loadThen a n done) ((s.withStatus q y).loadThen a n done) := by
  have check : (s.withStatus q y).checkAccess a n Region.read 0x8009#16 0x8001#16 =
      s.checkAccess a n Region.read 0x8009#16 0x8001#16 := rfl
  unfold State.loadThen State.memRead
  rw [check, State.noteLoad_withStatus]
  cases s.checkAccess a n Region.read 0x8009#16 0x8001#16 with
  | some code => exact h.raise hk code
  | none =>
    rw [← s.noteLoad_sr a n, ← s.noteLoad_ssr a n] at h
    exact hd _ _ h

include hk in
theorem loadThen_blind (a : Word) (n : Nat) {done : List Byte → State → State} (hd : ∀ bs, StatusBlind (done bs)) :
    AgreeOn k (s.loadThen a n done) ((s.withStatus q y).loadThen a n done) :=
  h.loadThen hk a n fun bs _ hu => (hd bs).next hu

include hk in
theorem storeThen_blind (a : Word) (n : Nat) {w : Nat} (v : BitVec w) {done : State → State} (hd : StatusBlind done) :
    AgreeOn k (s.storeThen a n v done) ((s.withStatus q y).storeThen a n v done) := by
  have check : (s.withStatus q y).checkAccess a n Region.write 0x800A#16 0x8002#16 =
      s.checkAccess a n Region.write 0x800A#16 0x8002#16 := rfl
  unfold State.storeThen State.memWrite
  rw [check, State.storeCells_withStatus]
  cases s.checkAccess a n Region.write 0x800A#16 0x8002#16 with
  | some code => exact h.raise hk code
  | none =>
    rw [← s.storeCells_sr (cellsOf a n v), ← s.storeCells_ssr (cellsOf a n v)] at h
    exact hd.next h

omit h in
theorem withFpu {o o' : Outcome} (ho : AgreeOn k o o') (i : Instr) :
    AgreeOn k (s.withFpu i o) ((s.withStatus q y).withFpu i o') := by
  unfold State.withFpu
  rw [State.withStatus_cfg]
  split
  · exact ho
  · exact rfl

omit h in
theorem withFpuStack {o o' : Outcome} (ho : AgreeOn k o o') (i : Instr) :
    AgreeOn k (s.withFpuStack i o) ((s.withStatus q y).withFpuStack i o') := by
  unfold State.withFpuStack
  rw [State.withStatus_cfg]
  split
  · exact ho
  · exact rfl

/-! ### The operations instructions end in -/

/-- A write of a register, of a value that the two states have in common. -/
theorem setReg (n : Reg) {v v' : Word} (hv : v = v') :
    AgreeOn k (.next (s.setReg n v).advance) (.next ((s.withStatus q y).setReg n v').advance) := by
  subst hv
  exact (setReg_advance_blind n v).next h

theorem setT {b c : Bool} (hb : b = c) :
    AgreeOn k (.next (s.setT b).advance) (.next ((s.withStatus q y).setT c).advance) := by
  subst hb
  exact (h.withT b).next (s := (s.setT b).advance)

theorem setReg_setT (n : Reg) {v v' : Word} (hv : v = v') (b : Bool) :
    AgreeOn k (.next ((s.setReg n v).setT b).advance) (.next (((s.withStatus q y).setReg n v').setT b).advance) := by
  subst hv
  exact setT (s := s.setReg n v) h rfl

theorem resultT (n : Reg) {r r' : Word × Bool} (hr : r = r') :
    AgreeOn k (s.resultT n r) ((s.withStatus q y).resultT n r') := by
  subst hr
  exact h.setReg_setT n rfl r.2

theorem setS (b : Bool) : AgreeOn k (.next (s.setS b).advance) (.next ((s.withStatus q y).setS b).advance) :=
  (h.withS b).next (s := (s.setS b).advance)

theorem setReg_dlrClobber (n : Reg) (v : Word) (d : Option Reg) :
    AgreeOn k (.next ((s.setReg n v).dlrClobber d).advance)
      (.next (((s.withStatus q y).setReg n v).dlrClobber d).advance) :=
  (setReg_dlrClobber_blind n v d).next h

theorem flagDlr (b : Bool) : AgreeOn k (s.flagDlr b) ((s.withStatus q y).flagDlr b) :=
  (dlrClobber_advance_blind none).next (s := s.setT b) (h.withT b)

/-- A branch to a target that the two states have in common. -/
theorem branchTo {target target' : Word} (ht : target = target') :
    AgreeOn k (s.branchTo target) ((s.withStatus q y).branchTo target') := by
  subst ht
  exact (h.withT _).next (s := (s.setPc target).branchClobber)

theorem callTo (target : Word) : AgreeOn k (s.callTo target) ((s.withStatus q y).callTo target) :=
  branchTo (s := s.setLr s.pcNext) h rfl

theorem branchIf {taken taken' : Bool} (ht : taken = taken') (target : Word) :
    AgreeOn k (s.branchIf taken target) ((s.withStatus q y).branchIf taken' target) :=
  h.branchTo (congrArg (if · then target else s.pcNext) ht)

theorem fresult (n : FReg) (v : DWord) : AgreeOn k (s.fresult n v) ((s.withStatus q y).fresult n v) :=
  (setFreg_advance_blind n v).next h

theorem fresultDlr (n : FReg) (v : DWord) : AgreeOn k (s.fresultDlr n v) ((s.withStatus q y).fresultDlr n v) :=
  (setFreg_dlrClobber_blind n v none).next h

include hk in
theorem movLoad (a : Word) (n : Nat) (ext : List Byte → Word) (d : Reg) :
    AgreeOn k (s.movLoad a n ext d) ((s.withStatus q y).movLoad a n ext d) :=
  h.loadThen_blind hk a n fun bs => setReg_movClobber_blind d (ext bs) (some d)

include hk in
theorem movStore (a : Word) (n : Nat) (v : Word) :
    AgreeOn k (s.movStore a n v) ((s.withStatus q y).movStore a n v) :=
  h.storeThen_blind hk a n v (movClobber_advance_blind none)

include hk in
theorem push (n : Nat) {w : Nat} (v : BitVec w) : AgreeOn k (s.push n v) ((s.withStatus q y).push n v) :=
  h.storeThen_blind hk _ n v (setReg_advance_blind sp _)

include hk in
/-- A pop, by what its destination does. -/
theorem pop (n : Nat) {dst : List Byte → State → State}
    (hd : ∀ bs u, StatusAlike k u.sr u.ssr q y →
      AgreeOn k (.next (dst bs u).advance) (.next (dst bs (u.withStatus q y)).advance)) :
    AgreeOn k (s.pop n dst) ((s.withStatus q y).pop n dst) :=
  h.loadThen hk _ n fun bs u hu => hd bs (u.setReg sp _) hu

/-! ### The system instructions -/

/-- A write of a control register: of SR or SSR both take the same word, of another both keep theirs. -/
theorem setCreg (c : CReg) (v : Word) :
    AgreeOn k (.next ((s.setCreg c v).getD s).advance)
      (.next (((s.withStatus q y).setCreg c v).getD (s.withStatus q y)).advance) := by
  by_cases h2 : c = 2#4
  · subst h2
    exact next (s := (s.setSr (StatusReg.ofWord v)).advance) ⟨rfl, h.ssr⟩
  · by_cases h12 : c = 12#4
    · subst h12
      exact next (s := State.advance { s with ssr := v }) ⟨h.sr, rfl⟩
    · exact (setCreg_advance_blind h2 h12 v).next h

theorem exec_movToCtl (c : CReg) (m : Reg) :
    AgreeOn k (exec (.movToCtl c m) s) (exec (.movToCtl c m) (s.withStatus q y)) := by
  cases hc : CReg.writable c with
  | false =>
    rw [exec_movToCtl_of_not_writable hc, exec_movToCtl_of_not_writable hc]
    exact rfl
  | true =>
    obtain ⟨t, ht⟩ := s.setCreg_of_writable hc (s.reg m)
    obtain ⟨u, hu⟩ := (s.withStatus q y).setCreg_of_writable hc (s.reg m)
    have written := h.setCreg c (s.reg m)
    rw [ht, hu] at written
    rw [exec_movToCtl_of_setCreg ht, exec_movToCtl_of_setCreg (m := m) hu]
    exact written

theorem exec_movFromCtl (n : Reg) {c : CReg} (h2 : c ≠ 2#4) (h12 : c ≠ 12#4) :
    AgreeOn k (exec (.movFromCtl n c) s) (exec (.movFromCtl n c) (s.withStatus q y)) := by
  have same : (s.withStatus q y).creg c = s.creg c := s.creg_withStatus q y h2 h12
  cases hc : CReg.named c with
  | false =>
    rw [exec_movFromCtl_of_not_named hc, exec_movFromCtl_of_not_named hc]
    exact rfl
  | true =>
    obtain ⟨v, hv⟩ := s.creg_of_named hc
    rw [exec_movFromCtl_of_creg hv, exec_movFromCtl_of_creg (same.trans hv)]
    exact h.setReg n rfl

include hk in
theorem exec_pushCtl {c : CReg} (h2 : c ≠ 2#4) (h12 : c ≠ 12#4) :
    AgreeOn k (exec (.pushCtl c) s) (exec (.pushCtl c) (s.withStatus q y)) := by
  have same : (s.withStatus q y).creg c = s.creg c := s.creg_withStatus q y h2 h12
  cases hc : CReg.named c with
  | false =>
    rw [exec_pushCtl_of_not_named hc, exec_pushCtl_of_not_named hc]
    exact rfl
  | true =>
    obtain ⟨v, hv⟩ := s.creg_of_named hc
    rw [exec_pushCtl_of_creg hv, exec_pushCtl_of_creg (same.trans hv)]
    exact h.push hk 4 v

include hk in
theorem exec_popCtl (c : CReg) : AgreeOn k (exec (.popCtl c) s) (exec (.popCtl c) (s.withStatus q y)) := by
  cases hc : CReg.writable c with
  | false =>
    rw [exec_popCtl_of_not_writable hc, exec_popCtl_of_not_writable hc]
    exact rfl
  | true =>
    rw [exec_popCtl_of_writable hc, exec_popCtl_of_writable hc]
    exact h.pop hk 4 fun bs u hu => hu.setCreg c (leWord 32 bs)

include hk in
theorem exec_pushReg (n : Reg) : AgreeOn k (exec (.pushReg n) s) (exec (.pushReg n) (s.withStatus q y)) := by
  by_cases hn : n = sp
  · subst hn
    exact rfl
  · rw [exec_pushReg_of_ne hn, exec_pushReg_of_ne hn]
    exact h.push hk 4 (s.reg n)

include hk in
theorem exec_popReg (n : Reg) : AgreeOn k (exec (.popReg n) s) (exec (.popReg n) (s.withStatus q y)) := by
  by_cases hn : n = sp
  · subst hn
    exact rfl
  · rw [exec_popReg_of_ne hn, exec_popReg_of_ne hn]
    exact h.pop hk 4 fun _ _ hu => hu.setReg n rfl

include hk in
/-- An unstated `sleep_invalid` may read SSR, so there SSR is the same. -/
theorem sleepInvalid_eq (hy : s.cfg.sleepRule = .unstated → s.ssr = y) :
    (s.withStatus q y).sleepInvalid = s.sleepInvalid := by
  unfold State.sleepInvalid
  rw [State.withStatus_cfg, State.withStatus_sr, h.bl_eq hk, h.ipl_eq hk]
  cases hr : s.cfg.sleepRule with
  | never => rfl
  | whenMasked => rfl
  | unstated =>
    obtain rfl := hy hr
    exact congrArg Config.sleepInvalid (s.sleepView_eq q s.fregs s.mem (h.masks_eq hk).symm)

include hk in
theorem exec_sleep (hy : s.cfg.sleepRule = .unstated → s.ssr = y) :
    AgreeOn k (exec .sleep s) (exec .sleep (s.withStatus q y)) := by
  change AgreeOn k (execSleep s) (execSleep (s.withStatus q y))
  unfold execSleep
  rw [h.sleepInvalid_eq hk hy]
  split
  · exact h.raise hk _
  · exact h.next (s := (s.setSleeping true).advance)

theorem exec_rte : AgreeOn k (exec .rte s) (exec .rte (s.withStatus q y)) := h.returned.next (s := s.trapReturn)

include hk in
/-- The functions of FLDCD and FSTCD may read SSR, so there SSR is the same. -/
theorem fpuView_eq (hy : s.ssr = y) : (s.withStatus q y).fpuView = s.fpuView := by
  subst hy
  exact s.fpuView_setSr q (h.bl_eq hk).symm

include hk in
theorem exec_fldcd (hy : s.ssr = y) (n : FReg) :
    AgreeOn k (exec (.fldcd n) s) (exec (.fldcd n) (s.withStatus q y)) := by
  refine withFpu ?_ _
  rw [State.withStatus_cfg, h.fpuView_eq hk hy]
  split
  · exact h.fresultDlr n _
  · exact rfl

include hk in
theorem exec_fstcd (hy : s.ssr = y) (n : FReg) :
    AgreeOn k (exec (.fstcd n) s) (exec (.fstcd n) (s.withStatus q y)) := by
  refine withFpu ?_ _
  rw [State.withStatus_cfg, h.fpuView_eq hk hy]
  split
  · rw [State.takeFstcd_withStatus]
    refine next ⟨?_, rfl⟩
    rw [State.takeFstcd_sr]
    exact h.sr
  · exact rfl

/-! ### Every instruction -/

include hk in
/-- Every instruction runs alike at two states whose SR and SSR agree in bits that have T, IPL and BL among them, but for
the reads of SR and SSR as words, and for the parameters that may read SSR. -/
theorem exec_agrees (i : Instr)
    (hread : ∀ n, i ≠ .movFromCtl n 2#4 ∧ i ≠ .movFromCtl n 12#4) (hpush2 : i ≠ .pushCtl 2#4)
    (hpush12 : i ≠ .pushCtl 12#4)
    (hview : (i = .sleep ∧ s.cfg.sleepRule = .unstated) ∨ (∃ n, i = .fldcd n ∨ i = .fstcd n) → s.ssr = y) :
    AgreeOn k (exec i s) (exec i (s.withStatus q y)) := by
  have ht : s.sr.t = q.t := h.t_eq hk
  cases i with
  | addReg | subReg | andReg | orReg | xorReg | movReg | addImm | movImm | ldiz8 | ldin8 | ldish | ldish16Zero
  | ldish16Ones | ldiz12 | ldin12 | extuB | extuW | extsB | extsW | notReg | negReg | rotl | rotr | shll1 | shll2
  | shll4 | shll8 | shll16 | shlr1 | shlr2 | shlr4 | shlr8 | shlr16 | shar1 | shar2 | shar4 | shar8 | shar16 | sharsx
  | swapB | swapW | swapLb => exact h.setReg _ rfl
  | movt => exact h.setReg _ (congrArg bitWord ht)
  | movnt => exact h.setReg _ (congrArg (fun t => bitWord !t) ht)
  | adcReg | sbbReg => exact h.resultT _ (congrArg _ ht)
  | negcReg => exact h.resultT _ (congrArg (subBorrow _ _) ht)
  | rotcl n => exact h.setReg_setT n (congrArg (fun t => (s.reg n <<< 1) ||| bitWord t) ht) _
  | rotcr n => exact h.setReg_setT n (congrArg (fun t => (s.reg n >>> 1) ||| (bitWord t <<< 31)) ht) _
  | shll | shlr | shar => exact h.setReg_setT _ rfl _
  | tstReg | cmpeqReg | cmphiReg | cmpgtReg | cmpeqImmU | cmpeqImmN | cmpgtImm | cmpgeImm | cmppl | cmppz | clrt | sett =>
    exact h.setT rfl
  | nott => exact h.setT (congrArg not ht)
  | cmphsDlr | cmpgeDlr => exact h.flagDlr _
  | addDlr | subDlr | andDlr | orDlr | xorDlr | shld | shad | leaB | leaW | leaL | leaQ =>
    exact h.setReg_dlrClobber _ _ _
  | muls | mulu => exact setReg (s := s.setReg dhr _) h dlr rfl
  | braDisp | braReg | rts => exact h.branchTo rfl
  | btDisp | btReg => exact h.branchIf ht _
  | bfDisp | bfReg => exact h.branchIf (congrArg not ht) _
  | bsrDisp | bsrReg => exact h.callTo _
  | nop => exact h.next (s := s.advance)
  | movbStore | movwStore | movlStore | movbStoreDlr | movwStoreDlr | movlStoreDlr | movlStoreSp | movwStoreSp
  | movlStoreDisp4 | movlStoreDisp8 | movlStoreDisp12 | movlStoreDisp16 | movlStoreDisp20 | movlStoreDisp24
  | movlStoreDisp28 => exact h.movStore hk _ _ _
  | movubLoad | movbLoad | movwLoad | movlLoad | movuwLoad | movubLoadDlr | movbLoadDlr | movwLoadDlr | movlLoadDlr
  | movuwLoadDlr | movuwLoadSp | movlLoadSp | movwLoadSp | movlLoadDisp4 | movlLoadDisp8 | movlLoadDisp12
  | movlLoadDisp16 | movlLoadDisp20 | movlLoadDisp24 | movlLoadDisp28 => exact h.movLoad hk _ _ _ _
  | pushReg n => exact h.exec_pushReg hk n
  | popReg n => exact h.exec_popReg hk n
  | pushCtl c => exact h.exec_pushCtl hk (fun e => hpush2 (e ▸ rfl)) (fun e => hpush12 (e ▸ rfl))
  | popCtl c => exact h.exec_popCtl hk c
  | movToCtl c m => exact h.exec_movToCtl c m
  | movFromCtl n c =>
    obtain ⟨h2, h12⟩ := hread n
    exact h.exec_movFromCtl n (fun e => h2 (e ▸ rfl)) (fun e => h12 (e ▸ rfl))
  | movToShadow | movFromShadow => exact rfl
  | clrs | sets => exact h.setS _
  | nots => exact h.invertS.next (s := (s.setS _).advance)
  | sleep => exact h.exec_sleep hk fun hr => hview (.inl ⟨rfl, hr⟩)
  | breakpoint => exact h.raise hk _
  | trap => exact h.softInterrupt hk _
  | rte => exact h.exec_rte
  | fadd | fsub | fmul | fmovReg | fneg | fabs => exact withFpu (h.fresult _ _) _
  | fcmpeq | fcmpgt => exact withFpu (h.setT rfl) _
  | fldcf | fldci | fldch => exact withFpu (h.fresultDlr _ _) _
  | fstcf | fstci => exact withFpu (h.setReg _ rfl) _
  | fldcd n => exact h.exec_fldcd hk (hview (.inr ⟨n, .inl rfl⟩)) n
  | fstcd n => exact h.exec_fstcd hk (hview (.inr ⟨n, .inr rfl⟩)) n
  | fstch => exact withFpu (setReg (s := { s with draws := s.draws + 1 }) h dlr rfl) _
  | fmovsStore | fmovdStore => exact withFpu (h.storeThen_blind hk _ _ _ fun _ _ _ => rfl) _
  | fmovsStoreDlr | fmovdStoreDlr => exact withFpu (h.storeThen_blind hk _ _ _ (dlrClobber_advance_blind none)) _
  | fmovsLoad | fmovdLoad => exact withFpu (h.loadThen_blind hk _ _ fun _ => setFreg_advance_blind _ _) _
  | fmovsLoadDlr | fmovdLoadDlr =>
    exact withFpu (h.loadThen_blind hk _ _ fun _ => setFreg_dlrClobber_blind _ _ none) _
  | pushFpu => exact withFpuStack (h.push hk 8 _) _
  | popFpu n => exact withFpuStack (h.pop hk 8 fun bs _ hu => hu.fresult n (leWord 64 bs)) _

end
end StatusAlike

/-- Whatever bits of SR and SSR are forgotten beside T, IPL and BL, every instruction runs alike. -/
theorem runsAlikeBut_onlyStatus {k : StatusReg} (hk : k.KeepsEffective) : RunsAlikeBut (State.onlyStatus k) := by
  intro i s t h hread hpush2 hpush12 hview
  obtain ⟨e, alike⟩ := State.onlyStatus_eq_iff.1 h
  rw [e]
  exact alike.exec_agrees hk i hread hpush2 hpush12 hview

end Sys2Proof.Machine
end

section
/-! SUPPORT. The pc a general fault saves (60_exceptions.md R412), an exception while SR.BL is 1 (R423), and the class of
the accepted interrupt (R421, R422). -/

namespace Sys2Proof.Machine

/-! ### General faults -/

section
variable (s : State)

/-- The saved PC of a general fault is the one FAULT_SPC asks for. -/
theorem State.faultRet_faultPc : FaultPc s s.faultRet := by
  refine ⟨fun hf => ?faulting, fun hf => ?following, s.faultRet_cases⟩
  case faulting => rw [State.faultRet, hf]
  case following => rw [State.faultRet, hf, State.pcNext]

/-- Trap entry of a general fault: the draw of the saved PC is not observable (60_exceptions.md R410, R412). -/
theorem State.faultDrawn_entered (code : Half) (off ret : Word) :
    Entered s (s.faultDrawn.trapEntry code off ret) code off ret := by
  rw [s.faultDrawn_eq]
  exact { s.trapEntry_entered code off ret with }

theorem State.raise_of_unblocked (hb : s.sr.bl = false) (code : Half) :
    s.raise code = .next (s.faultDrawn.trapEntry code 0x08#32 s.faultRet) := by
  rw [State.raise, hb, if_neg Bool.false_ne_true]

theorem State.raise_of_blocked (hb : s.sr.bl = true) (code : Half) :
    s.raise code = .fault (.exceptionWhileBlocked code s.pc) := by
  rw [State.raise, if_pos hb]

/-- While SR.BL is 1 no source is enabled (60_exceptions.md R421). -/
theorem State.acceptIrq_of_blocked (hb : s.sr.bl = true) : s.acceptIrq = none := by
  refine s.acceptIrq_eq_none fun src hc => ?_
  obtain ⟨-, unblocked, -⟩ := hc
  exact Bool.false_ne_true (unblocked.symm.trans hb)

end

/-! ### The accepted interrupt -/

theorem irqRank_le_of_ne_high {c : IrqClass} (h : c ≠ .high) : irqRank c ≤ irqRank .medium := by
  cases c with
  | high => exact absurd rfl h
  | medium | low => decide

/-- No candidate is of a class above that of the sources kept (60_exceptions.md R422). -/
theorem irqRank_le_of_mem_topClass {cfg : Config} {cand : List IrqSource} {src other : IrqSource}
    (h : src ∈ topClass cfg cand) (ho : other ∈ cand) :
    irqRank (irqClass cfg other) ≤ irqRank (irqClass cfg src) := by
  have of_class : ∀ {c}, src ∈ cand.filter (fun x => irqClass cfg x == c) → irqClass cfg src = c := fun hm =>
    beq_iff_eq.1 (List.mem_filter.1 hm).2
  have not_of_class : ∀ {c}, (cand.filter fun x => irqClass cfg x == c).isEmpty = true → irqClass cfg other ≠ c :=
    fun {c} he e =>
      have inside : other ∈ cand.filter fun x => irqClass cfg x == c := List.mem_filter.2 ⟨ho, beq_iff_eq.2 e⟩
      List.ne_nil_of_mem inside (List.isEmpty_iff.1 he)
  unfold topClass at h
  simp only at h
  split at h
  · next no_high =>
    split at h
    · next no_medium =>
      rw [of_class h]
      have not_high := not_of_class no_high
      have not_medium := not_of_class no_medium
      cases hc : irqClass cfg other with
      | high => exact absurd hc not_high
      | medium => exact absurd hc not_medium
      | low => exact Nat.le_refl _
    · rw [of_class h]
      exact irqRank_le_of_ne_high (not_of_class no_high)
  · rw [of_class h]
    cases irqClass cfg other <;> decide

section
variable {s : State} {src : IrqSource} {t : State}

/-- The accepted source is one of the highest class that has a candidate, whatever the free choice. -/
theorem State.acceptIrq_mem_topClass (h : s.acceptIrq = some (src, t)) : src ∈ topClass s.cfg s.irqCandidates := by
  unfold State.acceptIrq at h
  split at h
  · cases h
  · next e =>
    cases h
    rw [e]
    exact List.mem_cons_self
  · next first rest _ e =>
    cases h
    have inside : Config.pick s.draws (first :: rest) % (first :: rest).length < (first :: rest).length :=
      Nat.mod_lt _ (Nat.succ_pos _)
    rw [e, List.getD_eq_getElem _ _ inside]
    exact List.getElem_mem inside

/-- No other candidate is of a higher class than the accepted source (60_exceptions.md R421, R422). -/
theorem State.acceptIrq_highest (h : s.acceptIrq = some (src, t)) {other : IrqSource} (ho : Candidate s other) :
    irqRank (irqClass s.cfg other) ≤ irqRank (irqClass s.cfg src) :=
  irqRank_le_of_mem_topClass (State.acceptIrq_mem_topClass h) (s.mem_irqCandidates.2 ho)

end

end Sys2Proof.Machine
end

section
/-! The statements of 60_exceptions.md: the status bits without effect (O60), the accepted interrupt (O7) and taking an
exception (O11). -/

namespace Sys2Proof.Machine

/-- Settles O60: MD is not among T, IPL and BL, and no idle bit is. -/
theorem modeAndIdleStatusBitsHaveNoEffect : Obligations.ModeAndIdleStatusBitsHaveNoEffect := by
  refine ⟨?mode, ?idle⟩
  case mode =>
    rw [State.forgetMode_eq]
    exact runsAlikeBut_onlyStatus StatusReg.exceptMode_keepsEffective
  case idle =>
    rw [State.forgetIdle_eq]
    exact runsAlikeBut_onlyStatus StatusReg.effective_keepsEffective

/-- Settles O7: the source is the accepted one, and the step is trap entry for it; without a candidate the step runs or
sleeps. -/
theorem interruptAcceptanceAndPriority : Obligations.InterruptAcceptanceAndPriority := by
  intro s
  refine ⟨?taken, fun hc hs => step_of_awake ⟨hc, hs⟩, fun hc hs => step_of_asleep hs hc⟩
  case taken =>
    rintro ⟨_, hcand⟩
    obtain ⟨src, u, hu⟩ := State.acceptIrq_of_candidate hcand
    refine ⟨src, irqCode src, _, State.candidate_of_acceptIrq hu, fun other ho => ?_, irqCode_mem src,
      step_of_acceptIrq hu, State.acceptIrq_entered hu _ _ _⟩
    rw [← s.present_cfg]
    exact State.acceptIrq_highest hu ho

/-- Settles O11: trap entry leaves what `Entered` says, and is reached by both only where SR.BL is 0. -/
theorem takingAnException : Obligations.TakingAnException := by
  intro s code
  refine ⟨fun hb => ⟨?fault, ?software⟩, fun hb => ?blocked, s.trapEntry_entered code⟩
  case fault =>
    exact ⟨_, s.faultRet, s.raise_of_unblocked hb code, s.faultDrawn_entered code _ _, s.faultRet_faultPc⟩
  case software =>
    exact ⟨_, State.softInterrupt_of_unblocked hb code, s.trapEntry_entered code _ _⟩
  case blocked =>
    exact ⟨s.raise_of_blocked hb code, State.softInterrupt_of_blocked hb code, s.acceptIrq_of_blocked hb⟩

end Sys2Proof.Machine
end

section
/-! The statement of 70_reset_and_hazards.md: the reset event (O10). -/

namespace Sys2Proof.Machine

section
variable (s : State)

/-- The reset slot is at offset 0 of the vector table. -/
theorem State.resetFrom_pc_eq_resetVbr : s.resetFrom.pc = s.cfg.resetVbr :=
  s.resetFrom_pc.trans (BitVec.add_zero _)

/-- Reset writes SR as trap entry does (70_reset_and_hazards.md R450). -/
theorem State.resetFrom_sr_eq_entered : s.resetFrom.sr = s.sr.entered := rfl

/-- Reset leaves the control registers but PC, SR and VBR. -/
theorem State.resetFrom_creg {c : CReg} (h0 : c ≠ 0#4) (h2 : c ≠ 2#4) (h3 : c ≠ 3#4) :
    s.resetFrom.creg c = s.creg c := by
  have vbr_written : s.setCreg 3#4 s.cfg.resetVbr = some { s with vbr := s.cfg.resetVbr } := rfl
  rw [← State.setCreg_creg_ne h0 h2 h3 vbr_written]
  exact State.creg_congr h0 h2 s.resetFrom_lr s.resetFrom_vbr s.resetFrom_spc s.resetFrom_ssp s.resetFrom_gbr
    s.resetFrom_tbr s.resetFrom_exsr s.resetFrom_ssr

end

/-- Settles O10: reset is VBR and pc at RESET_VBR, SR as on trap entry, and the rest as it was. -/
theorem resetEvent : Obligations.ResetEvent := by
  intro s
  refine ⟨s.resetFrom_vbr, s.resetFrom_pc_eq_resetVbr, ?status, s.resetFrom_sleeping, s.resetFrom_reg, s.resetFrom_freg,
    fun _ h0 h2 h3 => s.resetFrom_creg h0 h2 h3, s.resetFrom_mem⟩
  case status =>
    rw [s.resetFrom_sr_eq_entered, StatusReg.toWord_entered]

end Sys2Proof.Machine
end

section
/-! SUPPORT. The decoder and the encoder against each other (30_encoding.md R91, R102): the digits the encoder writes are
read back, and what a table of the decoder answers is encoded by the digits that led to it. -/

namespace Sys2Proof

/-! ### Decoding what the encoder wrote -/

/-- The digits of an operand are the operand itself or, for an immediate, join to it again. -/
theorem decodeWord_encode (i : Instr) : decodeWord (encode i) = .ok i := by
  cases i with
  | braDisp | bsrDisp | btDisp | bfDisp | ldiz8 | ldin8 | ldish => simp [encode, decodeNibbles, decodeBlock2]
  | addImm | movImm | ldiz12 | ldin12 => simp [encode, decodeNibbles]
  | _ => exact decodeWord_nibbles _ _ _ _

theorem decodeWord_of_encode {i : Instr} {w : Half} (h : encode i = w) : decodeWord w = .ok i :=
  h ▸ decodeWord_encode i

/-- The bytes of a word are decoded as the word, whatever follows them (20_memory.md R62). -/
theorem decodeBytes_encodeBytes (i : Instr) (rest : List Byte) :
    decodeBytes (encodeBytes i ++ rest) = .ok (i, rest) := by
  change (decodeWord (wordOfBytes _ _)).map _ = _
  rw [wordOfBytes_split, decodeWord_encode]
  rfl

/-! ### Encoding what the decoder read -/

@[simp] theorem high4_append (n m : BitVec 4) : high4 (n ++ m) = n := BitVec.extractLsb'_append_eq_left

@[simp] theorem low4_append {k : Nat} (n : BitVec k) (m : BitVec 4) : low4 (n ++ m) = m :=
  BitVec.extractLsb'_append_eq_right

@[simp] theorem top4_append (b n m : BitVec 4) : top4 (b ++ n ++ m) = b := by
  rw [top4, BitVec.extractLsb'_append_eq_of_le (by decide)]
  exact BitVec.extractLsb'_append_eq_left

@[simp] theorem mid4_append (b n m : BitVec 4) : mid4 (b ++ n ++ m) = n := by
  rw [mid4, BitVec.extractLsb'_append_eq_of_le (by decide)]
  exact BitVec.extractLsb'_append_eq_right

/-- A digit is one of the sixteen. -/
theorem digit_cases {motive : BitVec 4 → Prop} (x : BitVec 4)
    (h0 : motive 0x0#4) (h1 : motive 0x1#4) (h2 : motive 0x2#4) (h3 : motive 0x3#4)
    (h4 : motive 0x4#4) (h5 : motive 0x5#4) (h6 : motive 0x6#4) (h7 : motive 0x7#4)
    (h8 : motive 0x8#4) (h9 : motive 0x9#4) (hA : motive 0xA#4) (hB : motive 0xB#4)
    (hC : motive 0xC#4) (hD : motive 0xD#4) (hE : motive 0xE#4) (hF : motive 0xF#4) : motive x := by
  obtain ⟨⟨k, hk⟩⟩ := x
  interval_cases k <;> assumption

section
variable {a b n m : BitVec 4} {i : Instr}

/-- An 8-bit field joined from two digits is written as these two digits. -/
theorem encode_of_decodeBlock2 (h : decodeBlock2 b n m = .ok i) : encode i = nibbles 0x2#4 b n m := by
  unfold decodeBlock2 at h
  split at h <;> cases h <;> simp only [encode, high4_append, low4_append]

theorem encode_of_decodeNoOperand (h : decodeNoOperand n m = .ok i) : encode i = nibbles 0x3#4 0x0#4 n m := by
  unfold decodeNoOperand at h
  split at h <;> cases h <;> rfl

theorem encode_of_decodeBlock3 (h : decodeBlock3 b n m = .ok i) : encode i = nibbles 0x3#4 b n m := by
  cases b using digit_cases
  case h0 => exact encode_of_decodeNoOperand h
  case h1 | h2 | h3 | h4 | h6 | h7 | h8 => cases m using digit_cases <;> cases h <;> rfl
  all_goals cases h

/-- Two digits name a two-operand instruction; the long immediates of blocks A to D are written as their digits. -/
theorem encode_of_decodeNibbles (h : decodeNibbles a b n m = .ok i) : encode i = nibbles a b n m := by
  cases a using digit_cases
  case h0 | h1 | h4 | h5 | h8 => cases b using digit_cases <;> cases h <;> rfl
  case h2 => exact encode_of_decodeBlock2 h
  case h3 => exact encode_of_decodeBlock3 h
  case h9 => exact (Machine.isWordOfPart_of_decodeBlock9 h).1
  case hA | hB | hC | hD => cases h; simp only [encode, top4_append, mid4_append, high4_append, low4_append]
  all_goals cases h

theorem encode_of_decodeWord {w : Half} (h : decodeWord w = .ok i) : encode i = w :=
  (encode_of_decodeNibbles h).trans (nibbles_of_word w)

end

end Sys2Proof
end

section
/-! SUPPORT. The reserved words (30_encoding.md R104): the table, digit by digit, lists what the decoder rejects, the
operand values an instruction stops on, and the instructions of a part that is absent. -/

namespace Sys2Proof.Machine

/-! ### What stops -/

/-- The instruction has an operand value of the table of R104: an unnamed control register or a shadow register. -/
def operandReserved : Instr → Bool
  | .pushCtl n | .popCtl n | .movToCtl n _ | .movFromCtl _ n => !CReg.named n
  | .movToShadow _ _ | .movFromShadow _ _ => true
  | _ => false

/-- An instruction with such an operand value stops on it, naming its word and its address (30_encoding.md R105). -/
theorem exec_of_operandReserved {i : Instr} {s : State} (h : operandReserved i = true) :
    exec i s = .fault (.reservedOperand (encode i) s.pc) := by
  have not_named : ∀ {n}, (!CReg.named n) = true → CReg.named n = false := Eq.mp (Bool.not_eq_true' _)
  have not_writable : ∀ {n}, (!CReg.named n) = true → CReg.writable n = false := fun {n} hn => by
    rw [CReg.writable, not_named hn, Bool.false_and]
  cases i with
  | pushCtl => exact exec_pushCtl_of_not_named (not_named h)
  | popCtl => exact exec_popCtl_of_not_writable (not_writable h)
  | movToCtl => exact exec_movToCtl_of_not_writable (not_writable h)
  | movFromCtl => exact exec_movFromCtl_of_not_named (not_named h)
  | movToShadow | movFromShadow => rfl
  | _ => cases h

/-- A step that fetches a word which is no instruction stops with the word, the decoder's reason and the pc. -/
theorem step_of_fetches_rejected {s : State} {w : Half} {why : Reject} (h : Fetches s w)
    (hw : decodeWord w = .error why) : step s = .fault (.reservedWord w why s.pc) := by
  obtain ⟨hawake, hfetch, hself, rfl⟩ := h
  have word : s.present.le16 s.present.pc = s.le16 s.pc := by
    rw [s.present_pc, State.le16, s.present_readByte, s.present_readByte, State.le16]
  rw [step_of_awake hawake, runInstruction, s.present.fetch_of_fetchable (s.present_fetchable.2 hfetch), word]
  simp only [s.present_selfModifiedAt, hself, hw, s.present_pc]

/-! ### The table and the decoder agree -/

/-- The decoder's answer is no instruction that an implementation with these parameters runs. -/
def reservedAnswer (cfg : Config) : Except Reject Instr → Bool
  | .error _ => true
  | .ok i => !Instr.present cfg i || operandReserved i

theorem reservedAnswer_ok {cfg : Config} {i : Instr} :
    reservedAnswer cfg (.ok i) = true ↔ Instr.present cfg i = false ∨ operandReserved i = true := by
  rw [reservedAnswer, Bool.or_eq_true, Bool.not_eq_true']

/-- The table of R104 at these four digits says what the decoder answers there. -/
def DigitsAgree (cfg : Config) (a b n m : BitVec 4) : Prop :=
  reservedDigits a.toNat b.toNat n.toNat m.toNat cfg.hasFpu cfg.hasFpuPushPop =
    reservedAnswer cfg (decodeNibbles a b n m)

theorem unnamedCtl_toNat (n : CReg) : unnamedCtl n.toNat = !CReg.named n := by
  revert n; decide

/-- The words 30nz end in the digit 0 (30_encoding.md R97). -/
theorem decodeNoOperand_of_ne {n m : BitVec 4} (h : m ≠ 0x0#4) : decodeNoOperand n m = .error .unassigned := by
  unfold decodeNoOperand
  split
  case h_14 => rfl
  all_goals exact absurd rfl h

section
variable (cfg : Config) (a b n m : BitVec 4)

/-- In 30nz the last digit of an instruction is 0, and then the digit before it is at most C. -/
theorem digitsAgree_block30 : DigitsAgree cfg 0x3#4 0x0#4 n m := by
  cases m using digit_cases
  case h0 => cases n using digit_cases <;> rfl
  all_goals exact (congrArg (reservedAnswer cfg) (decodeNoOperand_of_ne (by decide))).symm

/-- In 31nz the digits 9 and B are PUSH Cn and POP Cn, reserved where Cn has no name. -/
theorem digitsAgree_block31 : DigitsAgree cfg 0x3#4 0x1#4 n m := by
  cases m using digit_cases
  case h9 | hB => exact unnamedCtl_toNat n
  all_goals rfl

/-- In 38nz the digits 2 and 3 are PUSH FRn and POP FRn, reserved where that part is absent. -/
theorem digitsAgree_block38 : DigitsAgree cfg 0x3#4 0x8#4 n m := by
  cases m using digit_cases
  case h2 | h3 => exact (Bool.or_false _).symm
  all_goals rfl

theorem digitsAgree_block3 : DigitsAgree cfg 0x3#4 b n m := by
  cases b using digit_cases
  case h0 => exact digitsAgree_block30 cfg n m
  case h1 => exact digitsAgree_block31 cfg n m
  case h8 => exact digitsAgree_block38 cfg n m
  case h2 | h3 | h4 | h6 | h7 => cases m using digit_cases <;> rfl
  all_goals rfl

/-- In block 4 the digits 8 and 9 are the moves to and from Cn, reserved where Cn has no name. -/
theorem digitsAgree_block4 : DigitsAgree cfg 0x4#4 b n m := by
  cases b using digit_cases
  case h8 => exact (Bool.or_false _).trans (unnamedCtl_toNat n)
  case h9 => exact unnamedCtl_toNat m
  all_goals rfl

/-- In 9Fnz the digits from A up are reserved even with the FPU. -/
theorem digitsAgree_block9F : DigitsAgree cfg 0x9#4 0xF#4 n m := by
  cases m using digit_cases
  case hA | hB | hC | hD | hE | hF => exact Bool.or_true _
  all_goals exact Bool.or_false _

/-- Block 9 is reserved where the FPU is absent, and 9Bnm even with it. -/
theorem digitsAgree_block9 : DigitsAgree cfg 0x9#4 b n m := by
  cases b using digit_cases
  case hB => exact (Bool.or_false _).trans (Bool.or_true _)
  case hF => exact digitsAgree_block9F cfg n m
  all_goals exact Bool.or_false _

theorem digitsAgree : DigitsAgree cfg a b n m := by
  cases a using digit_cases
  case h3 => exact digitsAgree_block3 cfg b n m
  case h4 => exact digitsAgree_block4 cfg b n m
  case h9 => exact digitsAgree_block9 cfg b n m
  case h0 | h1 | h2 | h5 | h8 => cases b using digit_cases <;> rfl
  all_goals rfl

/-- A word is reserved where the decoder's answer is (30_encoding.md R104). -/
theorem reservedWord_iff (w : Half) : ReservedWord cfg w ↔ reservedAnswer cfg (decodeWord w) = true := by
  rw [ReservedWord, digitsAgree cfg (nibbleA w), decodeWord]

end

end Sys2Proof.Machine
end

section
/-! The statements of 30_encoding.md: the decoder and the encoder are inverse to each other (O1, O2), sample words (O3),
and the reserved words (O4). -/

namespace Sys2Proof.Machine

/-- Settles O1: the encoder's digits are read back, alone and in memory. -/
theorem decodeOfEncodeIsTheInstruction : Obligations.DecodeOfEncodeIsTheInstruction := fun i =>
  ⟨decodeWord_encode i, decodeBytes_encodeBytes i⟩

/-- Settles O2: each table of the decoder answers instructions that are encoded by the digits read. -/
theorem encodeOfDecodeIsTheWord : Obligations.EncodeOfDecodeIsTheWord := fun _ _ h => encode_of_decodeWord h

/-- Settles O3: each sample word is the encoding of its instruction. -/
theorem decodedSampleWords : Obligations.DecodedSampleWords :=
  ⟨decodeWord_of_encode rfl, decodeWord_of_encode rfl, decodeWord_of_encode rfl, decodeWord_of_encode rfl,
    decodeWord_of_encode rfl, decodeWord_of_encode rfl, decodeWord_of_encode rfl, decodeWord_of_encode rfl,
    decodeWord_of_encode rfl, decodeWord_of_encode rfl, decodeWord_of_encode rfl, decodeWord_of_encode rfl⟩

/-- Settles O4: a reserved word is rejected by the decoder, or its instruction is of an absent part or has a reserved
operand value; another word is none of these. -/
theorem reservedWordsStopNamingWordAndAddress : Obligations.ReservedWordsStopNamingWordAndAddress := by
  refine ⟨fun s w hf hr => ?stops, fun cfg w hr => ?runs⟩
  case stops =>
    rw [reservedWord_iff] at hr
    cases hw : decodeWord w with
    | error why => exact .inl ⟨why, step_of_fetches_rejected hf hw⟩
    | ok i =>
      obtain rfl := encode_of_decodeWord hw
      obtain ⟨⟨t, run, hpc, -, hframe⟩, -⟩ := stepRunsTheDecodedInstruction s _ i hf hw
      rw [hw, reservedAnswer_ok] at hr
      rw [run, ← hpc]
      rcases hr with absent | reserved
      · refine .inr (.inr (exec_of_not_present ?_))
        rwa [hframe.outside.1, s.present_cfg]
      · exact .inr (.inl (exec_of_operandReserved reserved))
  case runs =>
    rw [reservedWord_iff] at hr
    cases hw : decodeWord w with
    | error why => rw [hw] at hr; exact absurd rfl hr
    | ok i =>
      rw [hw, reservedAnswer_ok, not_or, Bool.not_eq_false] at hr
      obtain ⟨present, -⟩ := hr
      exact ⟨i, rfl, present⟩

end Sys2Proof.Machine
end
